-- ==== Sys2Proof/Word.lean ====
section
/-! DEFINITION. The widths the spec gives: the 16-bit word (R4), the 5-bit and 6-bit fields (R42), and the
length of an instruction, one word or two (R5). -/

namespace Sys2Proof

/-- R4: an instruction word; bit 0 is the least significant (R8). -/
abbrev Word := BitVec 16

/-- The 5-bit fields `op` and `bf` (R42). -/
abbrev Field5 := BitVec 5

/-- An operand code at the operand decoder's 6-bit port (R45, R93). -/
abbrev OperandCode := BitVec 6

/-- R5: an instruction is one word long or two, never more. -/
inductive Len where
  | one
  | two
deriving DecidableEq, Repr

/-- The length as a number of words. -/
def Len.words : Len → Nat
  | .one => 1
  | .two => 2

end Sys2Proof
end

