-- ==== Sys2Proof/Syntax.lean ====
section
/-! DEFINITION. The instructions of spec/opcode_table.json, one constructor per row, and the two
closed sets of mnemonics the opcode tables hold.

An instruction carries the operand CODES of its instruction word (R42).  A binary row carries the code of
operand b (destination, bits 9:5) and of operand a (source, bits 15:10); a special row carries the code of
its one operand, a.  Both are six bits wide, the width of the operand decoder's port (R45, R93): an
instruction word can only deliver a b code below 0x20, which is what `WellFormed` checks.  The trailing
word is not a field: its value never changes which instruction this is, nor its length (R50); the meaning
reads it from the word store (R121). -/

namespace Sys2Proof

/-- The entries of the binary opcode table (R55).  The codes are the document's; the names are the
DCPU-16 1.7 names the spec supplies from general knowledge (D6, PRESUMED: notes/assumptions/5.md). -/
inductive BinMnemonic where
  /-- SET, opcode 0x01 (R57). -/
  | set
  /-- ADD, opcode 0x02 (R58). -/
  | add
  /-- SUB, opcode 0x03 (R59). -/
  | sub
  /-- MUL, opcode 0x04 (R60). -/
  | mul
  /-- MLI, opcode 0x05 (R61). -/
  | mli
  /-- DIV, opcode 0x06 (R62). -/
  | div
  /-- DVI, opcode 0x07 (R63). -/
  | dvi
  /-- MOD, opcode 0x08 (R64). -/
  | mod
  /-- MDI, opcode 0x09 (R65). -/
  | mdi
  /-- AND, opcode 0x0A (R66). -/
  | and
  /-- BOR, opcode 0x0B (R67). -/
  | bor
  /-- XOR, opcode 0x0C (R68). -/
  | xor
  /-- SHR, opcode 0x0D (R69). -/
  | shr
  /-- ASR, opcode 0x0E (R70). -/
  | asr
  /-- SHL, opcode 0x0F (R71). -/
  | shl
  /-- IFB, opcode 0x10 (R72). -/
  | ifb
  /-- IFC, opcode 0x11 (R73). -/
  | ifc
  /-- IFE, opcode 0x12 (R74). -/
  | ife
  /-- IFN, opcode 0x13 (R75). -/
  | ifn
  /-- IFG, opcode 0x14 (R76). -/
  | ifg
  /-- IFA, opcode 0x15 (R77). -/
  | ifa
  /-- IFL, opcode 0x16 (R78). -/
  | ifl
  /-- IFU, opcode 0x17 (R79). -/
  | ifu
  /-- ADX, opcode 0x1A (R80). -/
  | adx
  /-- SBX, opcode 0x1B (R81). -/
  | sbx
  /-- STI, opcode 0x1E (R82). -/
  | sti
  /-- STD, opcode 0x1F (R83). -/
  | std
deriving DecidableEq, Repr

/-- The entries of the special opcode table (R56); the names as in `BinMnemonic`. -/
inductive SpecMnemonic where
  /-- JSR, selector 0x01 (R84). -/
  | jsr
  /-- INT, selector 0x08 (R85). -/
  | int
  /-- IAG, selector 0x09 (R86). -/
  | iag
  /-- IAS, selector 0x0A (R87). -/
  | ias
  /-- RFI, selector 0x0B (R88). -/
  | rfi
  /-- IAQ, selector 0x0C (R89). -/
  | iaq
  /-- HWN, selector 0x10 (R90). -/
  | hwn
  /-- HWQ, selector 0x11 (R91). -/
  | hwq
  /-- HWI, selector 0x12 (R92). -/
  | hwi
deriving DecidableEq, Repr

/-- One constructor per row of spec/opcode_table.json, the 27 reserved rows included: a reserved row is
decoded and emits its line like any other (R49, R113, R115). -/
inductive Instr where
  /-- R57: `aaaaaabbbbb00001` (`SET`). -/
  | set (b a : OperandCode)
  /-- R58: `aaaaaabbbbb00010` (`ADD`). -/
  | add (b a : OperandCode)
  /-- R59: `aaaaaabbbbb00011` (`SUB`). -/
  | sub (b a : OperandCode)
  /-- R60: `aaaaaabbbbb00100` (`MUL`). -/
  | mul (b a : OperandCode)
  /-- R61: `aaaaaabbbbb00101` (`MLI`). -/
  | mli (b a : OperandCode)
  /-- R62: `aaaaaabbbbb00110` (`DIV`). -/
  | div (b a : OperandCode)
  /-- R63: `aaaaaabbbbb00111` (`DVI`). -/
  | dvi (b a : OperandCode)
  /-- R64: `aaaaaabbbbb01000` (`MOD`). -/
  | mod (b a : OperandCode)
  /-- R65: `aaaaaabbbbb01001` (`MDI`). -/
  | mdi (b a : OperandCode)
  /-- R66: `aaaaaabbbbb01010` (`AND`). -/
  | and (b a : OperandCode)
  /-- R67: `aaaaaabbbbb01011` (`BOR`). -/
  | bor (b a : OperandCode)
  /-- R68: `aaaaaabbbbb01100` (`XOR`). -/
  | xor (b a : OperandCode)
  /-- R69: `aaaaaabbbbb01101` (`SHR`). -/
  | shr (b a : OperandCode)
  /-- R70: `aaaaaabbbbb01110` (`ASR`). -/
  | asr (b a : OperandCode)
  /-- R71: `aaaaaabbbbb01111` (`SHL`). -/
  | shl (b a : OperandCode)
  /-- R72: `aaaaaabbbbb10000` (`IFB`). -/
  | ifb (b a : OperandCode)
  /-- R73: `aaaaaabbbbb10001` (`IFC`). -/
  | ifc (b a : OperandCode)
  /-- R74: `aaaaaabbbbb10010` (`IFE`). -/
  | ife (b a : OperandCode)
  /-- R75: `aaaaaabbbbb10011` (`IFN`). -/
  | ifn (b a : OperandCode)
  /-- R76: `aaaaaabbbbb10100` (`IFG`). -/
  | ifg (b a : OperandCode)
  /-- R77: `aaaaaabbbbb10101` (`IFA`). -/
  | ifa (b a : OperandCode)
  /-- R78: `aaaaaabbbbb10110` (`IFL`). -/
  | ifl (b a : OperandCode)
  /-- R79: `aaaaaabbbbb10111` (`IFU`). -/
  | ifu (b a : OperandCode)
  /-- R80: `aaaaaabbbbb11010` (`ADX`). -/
  | adx (b a : OperandCode)
  /-- R81: `aaaaaabbbbb11011` (`SBX`). -/
  | sbx (b a : OperandCode)
  /-- R82: `aaaaaabbbbb11110` (`STI`). -/
  | sti (b a : OperandCode)
  /-- R83: `aaaaaabbbbb11111` (`STD`). -/
  | std (b a : OperandCode)
  /-- R84: `aaaaaa0000100000` (`JSR`). -/
  | jsr (a : OperandCode)
  /-- R85: `aaaaaa0100000000` (`INT`). -/
  | int (a : OperandCode)
  /-- R86: `aaaaaa0100100000` (`IAG`). -/
  | iag (a : OperandCode)
  /-- R87: `aaaaaa0101000000` (`IAS`). -/
  | ias (a : OperandCode)
  /-- R88: `aaaaaa0101100000` (`RFI`). -/
  | rfi (a : OperandCode)
  /-- R89: `aaaaaa0110000000` (`IAQ`). -/
  | iaq (a : OperandCode)
  /-- R90: `aaaaaa1000000000` (`HWN`). -/
  | hwn (a : OperandCode)
  /-- R91: `aaaaaa1000100000` (`HWQ`). -/
  | hwq (a : OperandCode)
  /-- R92: `aaaaaa1001000000` (`HWI`). -/
  | hwi (a : OperandCode)
  /-- R115: `aaaaaabbbbb11000` (`reserved_binary_opcode_0x18`). -/
  | reservedOp18 (b a : OperandCode)
  /-- R115: `aaaaaabbbbb11001` (`reserved_binary_opcode_0x19`). -/
  | reservedOp19 (b a : OperandCode)
  /-- R115: `aaaaaabbbbb11100` (`reserved_binary_opcode_0x1C`). -/
  | reservedOp1C (b a : OperandCode)
  /-- R115: `aaaaaabbbbb11101` (`reserved_binary_opcode_0x1D`). -/
  | reservedOp1D (b a : OperandCode)
  /-- R113: `aaaaaa0000000000` (`reserved_special_selector_0x00`). -/
  | reservedSel00 (a : OperandCode)
  /-- R113: `aaaaaa0001000000` (`reserved_special_selector_0x02`). -/
  | reservedSel02 (a : OperandCode)
  /-- R113: `aaaaaa0001100000` (`reserved_special_selector_0x03`). -/
  | reservedSel03 (a : OperandCode)
  /-- R113: `aaaaaa0010000000` (`reserved_special_selector_0x04`). -/
  | reservedSel04 (a : OperandCode)
  /-- R113: `aaaaaa0010100000` (`reserved_special_selector_0x05`). -/
  | reservedSel05 (a : OperandCode)
  /-- R113: `aaaaaa0011000000` (`reserved_special_selector_0x06`). -/
  | reservedSel06 (a : OperandCode)
  /-- R113: `aaaaaa0011100000` (`reserved_special_selector_0x07`). -/
  | reservedSel07 (a : OperandCode)
  /-- R113: `aaaaaa0110100000` (`reserved_special_selector_0x0D`). -/
  | reservedSel0D (a : OperandCode)
  /-- R113: `aaaaaa0111000000` (`reserved_special_selector_0x0E`). -/
  | reservedSel0E (a : OperandCode)
  /-- R113: `aaaaaa0111100000` (`reserved_special_selector_0x0F`). -/
  | reservedSel0F (a : OperandCode)
  /-- R113: `aaaaaa1001100000` (`reserved_special_selector_0x13`). -/
  | reservedSel13 (a : OperandCode)
  /-- R113: `aaaaaa1010000000` (`reserved_special_selector_0x14`). -/
  | reservedSel14 (a : OperandCode)
  /-- R113: `aaaaaa1010100000` (`reserved_special_selector_0x15`). -/
  | reservedSel15 (a : OperandCode)
  /-- R113: `aaaaaa1011000000` (`reserved_special_selector_0x16`). -/
  | reservedSel16 (a : OperandCode)
  /-- R113: `aaaaaa1011100000` (`reserved_special_selector_0x17`). -/
  | reservedSel17 (a : OperandCode)
  /-- R113: `aaaaaa1100000000` (`reserved_special_selector_0x18`). -/
  | reservedSel18 (a : OperandCode)
  /-- R113: `aaaaaa1100100000` (`reserved_special_selector_0x19`). -/
  | reservedSel19 (a : OperandCode)
  /-- R113: `aaaaaa1101000000` (`reserved_special_selector_0x1A`). -/
  | reservedSel1A (a : OperandCode)
  /-- R113: `aaaaaa1101100000` (`reserved_special_selector_0x1B`). -/
  | reservedSel1B (a : OperandCode)
  /-- R113: `aaaaaa1110000000` (`reserved_special_selector_0x1C`). -/
  | reservedSel1C (a : OperandCode)
  /-- R113: `aaaaaa1110100000` (`reserved_special_selector_0x1D`). -/
  | reservedSel1D (a : OperandCode)
  /-- R113: `aaaaaa1111000000` (`reserved_special_selector_0x1E`). -/
  | reservedSel1E (a : OperandCode)
  /-- R113: `aaaaaa1111100000` (`reserved_special_selector_0x1F`). -/
  | reservedSel1F (a : OperandCode)
deriving DecidableEq, Repr

end Sys2Proof
end

