-- ==== Sys2Proof/WellFormed.lean ====
section
/-! DEFINITION. Which terms of `Instr` an instruction word can stand for.  The one check is R45's: the
b operand code comes from a 5-bit field, zero-extended, so it is in 0x00..0x1F.  A b code in 0x20..0x3F
reaches the operand decoder only at its own port (R45, R108); such a term has a meaning, but no encoding. -/

namespace Sys2Proof

/-- R45: an operand code that a 5-bit b field can deliver. -/
def bCodeOk (b : OperandCode) : Bool := b.toNat < 0x20

/-- R45, one arm per constructor.  A special row has no b operand: its bits 9:5 are the selector (R42). -/
def Instr.wellFormed : Instr → Bool
  | .set b _ => bCodeOk b
  | .add b _ => bCodeOk b
  | .sub b _ => bCodeOk b
  | .mul b _ => bCodeOk b
  | .mli b _ => bCodeOk b
  | .div b _ => bCodeOk b
  | .dvi b _ => bCodeOk b
  | .mod b _ => bCodeOk b
  | .mdi b _ => bCodeOk b
  | .and b _ => bCodeOk b
  | .bor b _ => bCodeOk b
  | .xor b _ => bCodeOk b
  | .shr b _ => bCodeOk b
  | .asr b _ => bCodeOk b
  | .shl b _ => bCodeOk b
  | .ifb b _ => bCodeOk b
  | .ifc b _ => bCodeOk b
  | .ife b _ => bCodeOk b
  | .ifn b _ => bCodeOk b
  | .ifg b _ => bCodeOk b
  | .ifa b _ => bCodeOk b
  | .ifl b _ => bCodeOk b
  | .ifu b _ => bCodeOk b
  | .adx b _ => bCodeOk b
  | .sbx b _ => bCodeOk b
  | .sti b _ => bCodeOk b
  | .std b _ => bCodeOk b
  | .jsr _ => true
  | .int _ => true
  | .iag _ => true
  | .ias _ => true
  | .rfi _ => true
  | .iaq _ => true
  | .hwn _ => true
  | .hwq _ => true
  | .hwi _ => true
  | .reservedOp18 b _ => bCodeOk b
  | .reservedOp19 b _ => bCodeOk b
  | .reservedOp1C b _ => bCodeOk b
  | .reservedOp1D b _ => bCodeOk b
  | .reservedSel00 _ => true
  | .reservedSel02 _ => true
  | .reservedSel03 _ => true
  | .reservedSel04 _ => true
  | .reservedSel05 _ => true
  | .reservedSel06 _ => true
  | .reservedSel07 _ => true
  | .reservedSel0D _ => true
  | .reservedSel0E _ => true
  | .reservedSel0F _ => true
  | .reservedSel13 _ => true
  | .reservedSel14 _ => true
  | .reservedSel15 _ => true
  | .reservedSel16 _ => true
  | .reservedSel17 _ => true
  | .reservedSel18 _ => true
  | .reservedSel19 _ => true
  | .reservedSel1A _ => true
  | .reservedSel1B _ => true
  | .reservedSel1C _ => true
  | .reservedSel1D _ => true
  | .reservedSel1E _ => true
  | .reservedSel1F _ => true

/-- The instruction is one that some instruction word encodes. -/
abbrev WellFormed (i : Instr) : Prop := i.wellFormed = true

end Sys2Proof
end

