-- ==== Sys2Proof/Decode.lean ====
section
/-! DEFINITION. The encoding: the field extractor FX, the trailing-word predicate and the length of an
instruction word, the decoder and, after it, the encoder.

The decoder is total and refuses nothing: every 16-bit word is a word of exactly one row (R43, R44, R49).
Each dispatch lists all 32 values of its five-bit field bit by bit, most significant bit first, as the
encoding column of spec/opcode_table.json writes them, so no value falls through to a neighbour. -/

namespace Sys2Proof

/-! ### Fields -/

/-- R43: `op = w[4:0]`. -/
def fxOp (w : Word) : Field5 := w.extractLsb' 0 5

/-- R43: `bf = w[9:5]`; operand b's code in the binary form, the selector in the special form (R42). -/
def fxB (w : Word) : Field5 := w.extractLsb' 5 5

/-- R43: `af = w[15:10]`, operand a's code. -/
def fxA (w : Word) : OperandCode := w.extractLsb' 10 6

/-- R43, the other way: `w = (af << 10) | (bf << 5) | op`. -/
def packFields (op bf : Field5) (af : OperandCode) : Word :=
  (af.setWidth 16 <<< 10) ||| (bf.setWidth 16 <<< 5) ||| op.setWidth 16

/-- R45: `zext_6(bf)`. -/
def zext6 (bf : Field5) : OperandCode := bf.setWidth 6

/-! ### Length -/

/-- R48: the operand code uses the trailing word. -/
def consumes (c : OperandCode) : Bool :=
  (0x0E ≤ c.toNat && c.toNat ≤ 0x15) || c.toNat == 0x1A || c.toNat == 0x1E || c.toNat == 0x1F

/-- R119, special form: only operand a is tested. -/
def lenSpecial (a : OperandCode) : Len := if consumes a then .two else .one

/-- R119, binary form: either operand; both consuming share one trailing word, so still two (R51). -/
def lenBinary (b a : OperandCode) : Len := if consumes b || consumes a then .two else .one

/-- R119: the length of the instruction whose first word is `w`. -/
def wordLen (w : Word) : Len :=
  if fxOp w = 0 then lenSpecial (fxA w) else lenBinary (zext6 (fxB w)) (fxA w)

/-! ### Decoder -/

/-- The special form (`op = 0`): bits 9:5 are the selector (R42, R44, R56). -/
def decodeSpecial (sel : Field5) (a : OperandCode) : Instr :=
  match sel[4], sel[3], sel[2], sel[1], sel[0] with
  | false, false, false, false, false => .reservedSel00 a
  | false, false, false, false, true  => .jsr a
  | false, false, false, true , false => .reservedSel02 a
  | false, false, false, true , true  => .reservedSel03 a
  | false, false, true , false, false => .reservedSel04 a
  | false, false, true , false, true  => .reservedSel05 a
  | false, false, true , true , false => .reservedSel06 a
  | false, false, true , true , true  => .reservedSel07 a
  | false, true , false, false, false => .int a
  | false, true , false, false, true  => .iag a
  | false, true , false, true , false => .ias a
  | false, true , false, true , true  => .rfi a
  | false, true , true , false, false => .iaq a
  | false, true , true , false, true  => .reservedSel0D a
  | false, true , true , true , false => .reservedSel0E a
  | false, true , true , true , true  => .reservedSel0F a
  | true , false, false, false, false => .hwn a
  | true , false, false, false, true  => .hwq a
  | true , false, false, true , false => .hwi a
  | true , false, false, true , true  => .reservedSel13 a
  | true , false, true , false, false => .reservedSel14 a
  | true , false, true , false, true  => .reservedSel15 a
  | true , false, true , true , false => .reservedSel16 a
  | true , false, true , true , true  => .reservedSel17 a
  | true , true , false, false, false => .reservedSel18 a
  | true , true , false, false, true  => .reservedSel19 a
  | true , true , false, true , false => .reservedSel1A a
  | true , true , false, true , true  => .reservedSel1B a
  | true , true , true , false, false => .reservedSel1C a
  | true , true , true , false, true  => .reservedSel1D a
  | true , true , true , true , false => .reservedSel1E a
  | true , true , true , true , true  => .reservedSel1F a

/-- R44: the form is decided by `op` alone; the binary form is dispatched on `op` (R55). -/
def decodeFields (op bf : Field5) (a : OperandCode) : Instr :=
  match op[4], op[3], op[2], op[1], op[0] with
  | false, false, false, false, false => decodeSpecial bf a
  | false, false, false, false, true  => .set (zext6 bf) a
  | false, false, false, true , false => .add (zext6 bf) a
  | false, false, false, true , true  => .sub (zext6 bf) a
  | false, false, true , false, false => .mul (zext6 bf) a
  | false, false, true , false, true  => .mli (zext6 bf) a
  | false, false, true , true , false => .div (zext6 bf) a
  | false, false, true , true , true  => .dvi (zext6 bf) a
  | false, true , false, false, false => .mod (zext6 bf) a
  | false, true , false, false, true  => .mdi (zext6 bf) a
  | false, true , false, true , false => .and (zext6 bf) a
  | false, true , false, true , true  => .bor (zext6 bf) a
  | false, true , true , false, false => .xor (zext6 bf) a
  | false, true , true , false, true  => .shr (zext6 bf) a
  | false, true , true , true , false => .asr (zext6 bf) a
  | false, true , true , true , true  => .shl (zext6 bf) a
  | true , false, false, false, false => .ifb (zext6 bf) a
  | true , false, false, false, true  => .ifc (zext6 bf) a
  | true , false, false, true , false => .ife (zext6 bf) a
  | true , false, false, true , true  => .ifn (zext6 bf) a
  | true , false, true , false, false => .ifg (zext6 bf) a
  | true , false, true , false, true  => .ifa (zext6 bf) a
  | true , false, true , true , false => .ifl (zext6 bf) a
  | true , false, true , true , true  => .ifu (zext6 bf) a
  | true , true , false, false, false => .reservedOp18 (zext6 bf) a
  | true , true , false, false, true  => .reservedOp19 (zext6 bf) a
  | true , true , false, true , false => .adx (zext6 bf) a
  | true , true , false, true , true  => .sbx (zext6 bf) a
  | true , true , true , false, false => .reservedOp1C (zext6 bf) a
  | true , true , true , false, true  => .reservedOp1D (zext6 bf) a
  | true , true , true , true , false => .sti (zext6 bf) a
  | true , true , true , true , true  => .std (zext6 bf) a

/-- The instruction an instruction word stands for. -/
def decode (w : Word) : Instr := decodeFields (fxOp w) (fxB w) (fxA w)

/-! ### Encoder -/

/-- A binary row's word: the opcode, b's low five bits (all of them in a well-formed term), a's code. -/
def packBinary (op : Field5) (b a : OperandCode) : Word := packFields op (b.setWidth 5) a

/-- A special row's word: opcode 0, the selector, a's code. -/
def packSpecial (sel : Field5) (a : OperandCode) : Word := packFields 0 sel a

/-- The instruction word of an instruction, from the match values of spec/opcode_table.json. -/
def encode : Instr → Word
  | .set b a => packBinary 0x01#5 b a
  | .add b a => packBinary 0x02#5 b a
  | .sub b a => packBinary 0x03#5 b a
  | .mul b a => packBinary 0x04#5 b a
  | .mli b a => packBinary 0x05#5 b a
  | .div b a => packBinary 0x06#5 b a
  | .dvi b a => packBinary 0x07#5 b a
  | .mod b a => packBinary 0x08#5 b a
  | .mdi b a => packBinary 0x09#5 b a
  | .and b a => packBinary 0x0A#5 b a
  | .bor b a => packBinary 0x0B#5 b a
  | .xor b a => packBinary 0x0C#5 b a
  | .shr b a => packBinary 0x0D#5 b a
  | .asr b a => packBinary 0x0E#5 b a
  | .shl b a => packBinary 0x0F#5 b a
  | .ifb b a => packBinary 0x10#5 b a
  | .ifc b a => packBinary 0x11#5 b a
  | .ife b a => packBinary 0x12#5 b a
  | .ifn b a => packBinary 0x13#5 b a
  | .ifg b a => packBinary 0x14#5 b a
  | .ifa b a => packBinary 0x15#5 b a
  | .ifl b a => packBinary 0x16#5 b a
  | .ifu b a => packBinary 0x17#5 b a
  | .adx b a => packBinary 0x1A#5 b a
  | .sbx b a => packBinary 0x1B#5 b a
  | .sti b a => packBinary 0x1E#5 b a
  | .std b a => packBinary 0x1F#5 b a
  | .jsr a => packSpecial 0x01#5 a
  | .int a => packSpecial 0x08#5 a
  | .iag a => packSpecial 0x09#5 a
  | .ias a => packSpecial 0x0A#5 a
  | .rfi a => packSpecial 0x0B#5 a
  | .iaq a => packSpecial 0x0C#5 a
  | .hwn a => packSpecial 0x10#5 a
  | .hwq a => packSpecial 0x11#5 a
  | .hwi a => packSpecial 0x12#5 a
  | .reservedOp18 b a => packBinary 0x18#5 b a
  | .reservedOp19 b a => packBinary 0x19#5 b a
  | .reservedOp1C b a => packBinary 0x1C#5 b a
  | .reservedOp1D b a => packBinary 0x1D#5 b a
  | .reservedSel00 a => packSpecial 0x00#5 a
  | .reservedSel02 a => packSpecial 0x02#5 a
  | .reservedSel03 a => packSpecial 0x03#5 a
  | .reservedSel04 a => packSpecial 0x04#5 a
  | .reservedSel05 a => packSpecial 0x05#5 a
  | .reservedSel06 a => packSpecial 0x06#5 a
  | .reservedSel07 a => packSpecial 0x07#5 a
  | .reservedSel0D a => packSpecial 0x0D#5 a
  | .reservedSel0E a => packSpecial 0x0E#5 a
  | .reservedSel0F a => packSpecial 0x0F#5 a
  | .reservedSel13 a => packSpecial 0x13#5 a
  | .reservedSel14 a => packSpecial 0x14#5 a
  | .reservedSel15 a => packSpecial 0x15#5 a
  | .reservedSel16 a => packSpecial 0x16#5 a
  | .reservedSel17 a => packSpecial 0x17#5 a
  | .reservedSel18 a => packSpecial 0x18#5 a
  | .reservedSel19 a => packSpecial 0x19#5 a
  | .reservedSel1A a => packSpecial 0x1A#5 a
  | .reservedSel1B a => packSpecial 0x1B#5 a
  | .reservedSel1C a => packSpecial 0x1C#5 a
  | .reservedSel1D a => packSpecial 0x1D#5 a
  | .reservedSel1E a => packSpecial 0x1E#5 a
  | .reservedSel1F a => packSpecial 0x1F#5 a

/-- All words of an instruction with trailing word `t`: one word, or two when an operand consumes (R42). -/
def encodeWords (i : Instr) (t : Word) : List Word :=
  match wordLen (encode i) with
  | .one => [encode i]
  | .two => [encode i, t]

/-! ### The host's numbering -/

/-- The k-th 16-bit word of an instruction whose bits, numbered as the opcode table numbers them, are the
low `nbits` bits of `w`; the bits above are zero.  The word store holds whole words (R30), so there is no
byte order to apply. -/
def tableWord (nbits w k : Nat) : Word := BitVec.ofNat 16 ((w % 2 ^ nbits) >>> (16 * k))

/-- The instruction the decoder reads from those bits.  Always an instruction: the decoder refuses no word. -/
def decodeTableWord (nbits w : Nat) : Option Instr := some (decode (tableWord nbits w 0))

end Sys2Proof
end

