-- ==== Sys2Proof/Config.lean ====
section
/-! DEFINITION. What the spec leaves as parameters (93_implementation_defined.md section 1): the spellings
and number formats of the printed text, and the width of a hardware cursor.  No value a step computes
depends on any of them: State holds structured lines (R13, R25), and text is `render` of those. -/

namespace Sys2Proof

/-- The spellings of the operands the document describes and does not spell (R53, D7). -/
structure RenderNames where
  push : String
  pop : String
  peek : String
  pick : String
  sp : String
  pc : String
  ex : String
deriving DecidableEq, Repr

/-- R53: the one property the document requires of the spellings. -/
abbrev RenderNames.Admissible (N : RenderNames) : Prop := N.push ≠ N.pop

/-- The text parameters of `render`: mnemonics (D6), operand names (D7), number formats (D8) and
placeholder texts (D23).  The spec's defaults are `Machine.defaultText`. -/
structure TextConfig where
  /-- `Mn` on the binary table's entries. -/
  binName : BinMnemonic → String
  /-- `Mn` on the special table's entries. -/
  specName : SpecMnemonic → String
  names : RenderNames
  /-- `FmtWord`, for a trailing word. -/
  fmtWord : Word → String
  /-- `FmtLit`, for an inline literal. -/
  fmtLit : Int → String
  unknownOpcode : String
  unknownSpecial : String
  unknownOperand : String

/-- R19, D10: a hardware cursor of `width` bits is wide enough for a stream of `n` words.  `CURSOR_W` is
OPEN in the spec: it is an argument here, and the model's own cursor is a natural number. -/
abbrev CursorWidthFits (width n : Nat) : Prop := n + 1 < 2 ^ width

end Sys2Proof
end

