-- ==== Sys2Proof/Machine/State.lean ====
section
/-! DEFINITION. The state of the block (spec/10_state.md) and the records it outputs.  INVENTORY.md,
heading State, lists every piece with its rule and reset value. -/

namespace Sys2Proof.Machine

/-! ### Output records -/

/-- R14: an operand's position: `b` is the first operand (destination), `a` the second (source). -/
inductive Pos where
  | b
  | a
deriving DecidableEq, Repr

/-- R25: why an operand is unknown (R97, R108). -/
inductive UnknownCause where
  | unassigned
  | literalInB
deriving DecidableEq, Repr

/-- R25: the value of an inline literal, an integer in −1..30 (R10, R107) and no other. -/
abbrev Lit := { v : Int // -1 ≤ v ∧ v ≤ 30 }

/-- R25: a decoded operand.  Register indices are 0..7 into `regName`; `t` is the trailing word, used whole
and unsigned (R47). -/
inductive Operand where
  | reg (r : Fin 8)
  | regInd (r : Fin 8)
  | regIndOff (r : Fin 8) (t : Word)
  | push
  | pop
  | peek
  | pick (t : Word)
  | sp
  | pc
  | ex
  | memAbs (t : Word)
  | litWord (t : Word)
  | litInline (v : Lit)
  | unknown (code : OperandCode) (why : UnknownCause)
deriving DecidableEq, Repr

/-- R25: a decoded instruction. -/
inductive Decoded where
  | binary (op : Field5) (m : BinMnemonic) (b a : Operand)
  | special (sel : Field5) (m : SpecMnemonic) (a : Operand)
  | unknownOpcode (op : Field5)
  | unknownSpecial (sel : Field5)
deriving DecidableEq, Repr

/-- R26: one line of output: the index its instruction word was read at, the words the sequencer advanced
by, and the decoded instruction. -/
structure Line where
  addr : Nat
  len : Len
  dec : Decoded
deriving DecidableEq, Repr

/-! ### The word store -/

/-- One word of the store at its index.  The unit of access is the whole 16-bit word (R29), so a cell holds
a word and no byte order is fixed (R30): notes/assumptions/3.md. -/
abbrev WordCell := Nat × Word

/-- R24: the word store, `words[0..n-1]`.  The cells are in canonical form (`Memory.wf`): indices strictly
rising and below `n`, and no cell equal to what an unlisted index reads as. -/
structure Memory where
  n : Nat
  cells : List WordCell
deriving DecidableEq, Repr

/-! ### The machine -/

/-- Everything the block stores (R22, R28).  `done` is a function of the cursor and `n`, no field (R27). -/
structure State where
  /-- The word store and its length (R24). -/
  words : Memory
  /-- The sequencer's cursor, the block's program counter (R19). -/
  cursor : Nat
  /-- The lines emitted so far, oldest first (R26). -/
  out : List Line
deriving DecidableEq, Repr

/-- No fault exists: the block has no synchronous exception, fault or trap (R128), so there is nothing to
raise and the type has no constructor.  Safe: no run of the model ends in a fault. -/
inductive Fault where
deriving DecidableEq, Repr

/-- Why the model would give an instruction no meaning. -/
inductive Refusal where
  /-- An arm of `exec` without a meaning.  Raised by no arm: all 63 rows have theirs.  Safe. -/
  | notModelled (mnemonic : String)
deriving DecidableEq, Repr

/-- The outcome of a meaning or a step. -/
abbrev Result := Host.Outcome State Fault Refusal

/-- R28, R144: cursor 0, no output.  The store is not the block's to reset: the spec gives it no reset
value, and here nothing is loaded yet (DESIGN CHOICE, notes/assumptions/1.md). -/
def State.reset : State where
  words := { n := 0, cells := [] }
  cursor := 0
  out := []

end Sys2Proof.Machine
end

