-- ==== Sys2Proof/Machine/Operands.lean ====
section
/-! DEFINITION. The operand decoder OD (spec/41_operand_decoder.md): every operand code in both positions. -/

namespace Sys2Proof.Machine

/-- A register index computed from a code (R47).  It is applied only inside its range, so the index never
wraps (R11). -/
def regIdx (k : Nat) : Fin 8 := Fin.ofNat 8 k

/-- R107: the inline literal of a code in 0x20..0x3F, `code − 0x21` in integers (R11). -/
def inlineLit (code : OperandCode) (h : 0x1F < code.toNat) : Lit :=
  ⟨(code.toNat : Int) - 0x21, by have := code.isLt; omega⟩

/-- R93: the description of an operand code with trailing word `t` in position `pos`. -/
def operandDesc (code : OperandCode) (t : Word) (pos : Pos) : Operand :=
  let c := code.toNat
  if c ≤ 0x06 then .reg (regIdx c)                          -- R94
  else if c ≤ 0x0D then .regInd (regIdx (c - 0x07))         -- R95
  else if c ≤ 0x15 then .regIndOff (regIdx (c - 0x0E)) t    -- R96
  else if c ≤ 0x17 then .unknown code .unassigned           -- R97
  else if c = 0x18 then
    match pos with
    | .b => .push                                           -- R98
    | .a => .pop                                            -- R99
  else if c = 0x19 then .peek                               -- R100
  else if c = 0x1A then .pick t                             -- R101
  else if c = 0x1B then .sp                                 -- R102
  else if c = 0x1C then .pc                                 -- R103
  else if c = 0x1D then .ex                                 -- R104
  else if c = 0x1E then .memAbs t                           -- R105
  else if h : c ≤ 0x1F then .litWord t                      -- R106: 0x1F alone is left below 0x20
  else
    match pos with
    | .a => .litInline (inlineLit code (Nat.lt_of_not_le h)) -- R107
    | .b => .unknown code .literalInB                       -- R108

/-- R93, R109: the operand decoder's two outputs, `desc` and `consumed`. -/
def od (code : OperandCode) (t : Word) (pos : Pos) : Operand × Bool :=
  (operandDesc code t pos, consumes code)

/-- R10, D9: an inline literal on a 16-bit port, in two's complement. -/
def litPort (v : Lit) : Word := BitVec.ofInt 16 v.val

end Sys2Proof.Machine
end

