-- ==== Sys2Proof/Machine/Ops.lean ====
section
/-! DEFINITION. The named operations over the word store, the cursor and the output, and the four shapes of
an instruction's meaning.

There is no operation that takes an exception and none that returns from one: the block has no trap entry
(R133), no trap return (R134) and nothing that raises (R12, R128). -/

namespace Sys2Proof.Machine

/-! ### The word store's canonical form -/

/-- What an index that no cell lists reads as: 0x0000.  Past the end the spec says so (R33); below `n` the
host has loaded every word (R138), and a loaded 0x0000 is the word that is not listed. -/
def unlistedWord : Word := 0

/-- Canonical form of a list of cells with indices in `lo..hi-1`. -/
def cellsWf (lo hi : Nat) : List WordCell → Bool
  | [] => true
  | (i, w) :: cs => decide (lo ≤ i) && decide (i < hi) && decide (w ≠ unlistedWord) && cellsWf (i + 1) hi cs

/-- The store is in canonical form, so equal stores are equal data. -/
def Memory.wf (m : Memory) : Bool := cellsWf 0 m.n m.cells

/-! ### Reading the word store -/

/-- The word the cells list at index `k`. -/
def lookupCell : List WordCell → Nat → Word
  | [], _ => unlistedWord
  | (i, w) :: cs, k => if i = k then w else lookupCell cs k

/-- `WordAt(k)` (R12, R33): `words[k]` below `n`, 0x0000 at and past `n`. -/
def Memory.wordAt (m : Memory) (k : Nat) : Word :=
  if k < m.n then lookupCell m.cells k else 0x0000#16

/-! ### Filling the word store: the host's side only (R34, R138) -/

/-- Put a word at an index of a canonical list of cells; the word an unlisted index reads as leaves none. -/
def putCell : List WordCell → Nat → Word → List WordCell
  | [], k, w => if w = unlistedWord then [] else [(k, w)]
  | (i, v) :: cs, k, w =>
    if k < i then
      if w = unlistedWord then (i, v) :: cs else (k, w) :: (i, v) :: cs
    else if k = i then
      if w = unlistedWord then cs else (k, w) :: cs
    else (i, v) :: putCell cs k w

/-- Put a word at an index, the store growing to hold it. -/
def Memory.put (m : Memory) (k : Nat) (w : Word) : Memory :=
  { n := max m.n (k + 1), cells := putCell m.cells k w }

/-- The canonical cells of a sequence of words starting at index `i`. -/
def cellsFrom (i : Nat) : List Word → List WordCell
  | [] => []
  | w :: ws => if w = unlistedWord then cellsFrom (i + 1) ws else (i, w) :: cellsFrom (i + 1) ws

/-- R138: the store after the host has loaded a sequence of words. -/
def Memory.ofWords (ws : List Word) : Memory :=
  { n := ws.length, cells := cellsFrom 0 ws }

/-! ### The sequencer's reads and writes -/

/-- R27: the run is over. -/
def done (s : State) : Bool := decide (s.words.n ≤ s.cursor)

/-- R121: the instruction word of the step, `WordAt(cursor)`. -/
def instrWord (s : State) : Word := s.words.wordAt s.cursor

/-- R121, R122: the trailing word of the step, `WordAt(cursor + 1)`, 0x0000 past the end. -/
def trailingWord (s : State) : Word := s.words.wordAt (s.cursor + 1)

/-- R12: `emit(line)`. -/
def emit (l : Line) (s : State) : State := { s with out := s.out ++ [l] }

/-- R12: `cursor <- v`. -/
def setCursor (v : Nat) (s : State) : State := { s with cursor := v }

/-- R121: emit the line read at the cursor, then advance the cursor by its length. -/
def emitLine (dec : Decoded) (len : Len) (s : State) : State :=
  setCursor (s.cursor + len.words) (emit { addr := s.cursor, len := len, dec := dec } s)

/-! ### The shapes of a meaning -/

/-- R114: a recognized binary instruction; both operands get the same trailing word (R51). -/
def emitBinary (op : Field5) (m : BinMnemonic) (b a : OperandCode) (s : State) : Result :=
  let t := trailingWord s
  .next (emitLine (.binary op m (od b t .b).1 (od a t .a).1) (lenBinary b a) s)

/-- R112: a recognized special instruction; its one operand is in position a. -/
def emitSpecial (sel : Field5) (m : SpecMnemonic) (a : OperandCode) (s : State) : Result :=
  .next (emitLine (.special sel m (od a (trailingWord s) .a).1) (lenSpecial a) s)

/-- R115: a reserved opcode; no operand is decoded, the length comes from both codes. -/
def emitUnknownOpcode (op : Field5) (b a : OperandCode) (s : State) : Result :=
  .next (emitLine (.unknownOpcode op) (lenBinary b a) s)

/-- R113: an absent selector; no operand is decoded, the length comes from a's code. -/
def emitUnknownSpecial (sel : Field5) (a : OperandCode) (s : State) : Result :=
  .next (emitLine (.unknownSpecial sel) (lenSpecial a) s)

end Sys2Proof.Machine
end

