-- ==== Sys2Proof/Machine/Arithmetic.lean ====
section
/-! DEFINITION. Meanings of the data move and the arithmetic rows. -/

namespace Sys2Proof.Machine

/-- R57, `SET`. -/
def execSet (b a : OperandCode) (s : State) : Result := emitBinary 0x01#5 .set b a s

/-- R58, `ADD`. -/
def execAdd (b a : OperandCode) (s : State) : Result := emitBinary 0x02#5 .add b a s

/-- R59, `SUB`. -/
def execSub (b a : OperandCode) (s : State) : Result := emitBinary 0x03#5 .sub b a s

/-- R60, `MUL`. -/
def execMul (b a : OperandCode) (s : State) : Result := emitBinary 0x04#5 .mul b a s

/-- R61, `MLI`. -/
def execMli (b a : OperandCode) (s : State) : Result := emitBinary 0x05#5 .mli b a s

/-- R62, `DIV`. -/
def execDiv (b a : OperandCode) (s : State) : Result := emitBinary 0x06#5 .div b a s

/-- R63, `DVI`. -/
def execDvi (b a : OperandCode) (s : State) : Result := emitBinary 0x07#5 .dvi b a s

/-- R64, `MOD`. -/
def execMod (b a : OperandCode) (s : State) : Result := emitBinary 0x08#5 .mod b a s

/-- R65, `MDI`. -/
def execMdi (b a : OperandCode) (s : State) : Result := emitBinary 0x09#5 .mdi b a s

end Sys2Proof.Machine
end

