-- ==== Sys2Proof/Machine/Conditional.lean ====
section
/-! DEFINITION. Meanings of the conditional rows. None skips anything: the next word is decoded whatever the condition would be (R127). -/

namespace Sys2Proof.Machine

/-- R72, `IFB`. -/
def execIfb (b a : OperandCode) (s : State) : Result := emitBinary 0x10#5 .ifb b a s

/-- R73, `IFC`. -/
def execIfc (b a : OperandCode) (s : State) : Result := emitBinary 0x11#5 .ifc b a s

/-- R74, `IFE`. -/
def execIfe (b a : OperandCode) (s : State) : Result := emitBinary 0x12#5 .ife b a s

/-- R75, `IFN`. -/
def execIfn (b a : OperandCode) (s : State) : Result := emitBinary 0x13#5 .ifn b a s

/-- R76, `IFG`. -/
def execIfg (b a : OperandCode) (s : State) : Result := emitBinary 0x14#5 .ifg b a s

/-- R77, `IFA`. -/
def execIfa (b a : OperandCode) (s : State) : Result := emitBinary 0x15#5 .ifa b a s

/-- R78, `IFL`. -/
def execIfl (b a : OperandCode) (s : State) : Result := emitBinary 0x16#5 .ifl b a s

/-- R79, `IFU`. -/
def execIfu (b a : OperandCode) (s : State) : Result := emitBinary 0x17#5 .ifu b a s

end Sys2Proof.Machine
end

