-- ==== Sys2Proof/Machine/Extended.lean ====
section
/-! DEFINITION. Meanings of the rows of opcodes 0x1A, 0x1B, 0x1E and 0x1F. -/

namespace Sys2Proof.Machine

/-- R80, `ADX`. -/
def execAdx (b a : OperandCode) (s : State) : Result := emitBinary 0x1A#5 .adx b a s

/-- R81, `SBX`. -/
def execSbx (b a : OperandCode) (s : State) : Result := emitBinary 0x1B#5 .sbx b a s

/-- R82, `STI`. -/
def execSti (b a : OperandCode) (s : State) : Result := emitBinary 0x1E#5 .sti b a s

/-- R83, `STD`. -/
def execStd (b a : OperandCode) (s : State) : Result := emitBinary 0x1F#5 .std b a s

end Sys2Proof.Machine
end

