-- ==== Sys2Proof/Machine/Logic.lean ====
section
/-! DEFINITION. Meanings of the bitwise and shift rows. -/

namespace Sys2Proof.Machine

/-- R66, `AND`. -/
def execAnd (b a : OperandCode) (s : State) : Result := emitBinary 0x0A#5 .and b a s

/-- R67, `BOR`. -/
def execBor (b a : OperandCode) (s : State) : Result := emitBinary 0x0B#5 .bor b a s

/-- R68, `XOR`. -/
def execXor (b a : OperandCode) (s : State) : Result := emitBinary 0x0C#5 .xor b a s

/-- R69, `SHR`. -/
def execShr (b a : OperandCode) (s : State) : Result := emitBinary 0x0D#5 .shr b a s

/-- R70, `ASR`. -/
def execAsr (b a : OperandCode) (s : State) : Result := emitBinary 0x0E#5 .asr b a s

/-- R71, `SHL`. -/
def execShl (b a : OperandCode) (s : State) : Result := emitBinary 0x0F#5 .shl b a s

end Sys2Proof.Machine
end

