-- ==== Sys2Proof/Machine/Reserved.lean ====
section
/-! DEFINITION. Meanings of the 27 reserved rows: four binary opcodes (R115) and 23 special selectors (R113). None is a fault: each emits its placeholder line and advances by the same length formula (R49, R128, R130). -/

namespace Sys2Proof.Machine

/-- R115: reserved opcode 0x18. -/
def execReservedOp18 (b a : OperandCode) (s : State) : Result := emitUnknownOpcode 0x18#5 b a s

/-- R115: reserved opcode 0x19. -/
def execReservedOp19 (b a : OperandCode) (s : State) : Result := emitUnknownOpcode 0x19#5 b a s

/-- R115: reserved opcode 0x1C. -/
def execReservedOp1C (b a : OperandCode) (s : State) : Result := emitUnknownOpcode 0x1C#5 b a s

/-- R115: reserved opcode 0x1D. -/
def execReservedOp1D (b a : OperandCode) (s : State) : Result := emitUnknownOpcode 0x1D#5 b a s

/-- R113: reserved selector 0x00. -/
def execReservedSel00 (a : OperandCode) (s : State) : Result := emitUnknownSpecial 0x00#5 a s

/-- R113: reserved selector 0x02. -/
def execReservedSel02 (a : OperandCode) (s : State) : Result := emitUnknownSpecial 0x02#5 a s

/-- R113: reserved selector 0x03. -/
def execReservedSel03 (a : OperandCode) (s : State) : Result := emitUnknownSpecial 0x03#5 a s

/-- R113: reserved selector 0x04. -/
def execReservedSel04 (a : OperandCode) (s : State) : Result := emitUnknownSpecial 0x04#5 a s

/-- R113: reserved selector 0x05. -/
def execReservedSel05 (a : OperandCode) (s : State) : Result := emitUnknownSpecial 0x05#5 a s

/-- R113: reserved selector 0x06. -/
def execReservedSel06 (a : OperandCode) (s : State) : Result := emitUnknownSpecial 0x06#5 a s

/-- R113: reserved selector 0x07. -/
def execReservedSel07 (a : OperandCode) (s : State) : Result := emitUnknownSpecial 0x07#5 a s

/-- R113: reserved selector 0x0D. -/
def execReservedSel0D (a : OperandCode) (s : State) : Result := emitUnknownSpecial 0x0D#5 a s

/-- R113: reserved selector 0x0E. -/
def execReservedSel0E (a : OperandCode) (s : State) : Result := emitUnknownSpecial 0x0E#5 a s

/-- R113: reserved selector 0x0F. -/
def execReservedSel0F (a : OperandCode) (s : State) : Result := emitUnknownSpecial 0x0F#5 a s

/-- R113: reserved selector 0x13. -/
def execReservedSel13 (a : OperandCode) (s : State) : Result := emitUnknownSpecial 0x13#5 a s

/-- R113: reserved selector 0x14. -/
def execReservedSel14 (a : OperandCode) (s : State) : Result := emitUnknownSpecial 0x14#5 a s

/-- R113: reserved selector 0x15. -/
def execReservedSel15 (a : OperandCode) (s : State) : Result := emitUnknownSpecial 0x15#5 a s

/-- R113: reserved selector 0x16. -/
def execReservedSel16 (a : OperandCode) (s : State) : Result := emitUnknownSpecial 0x16#5 a s

/-- R113: reserved selector 0x17. -/
def execReservedSel17 (a : OperandCode) (s : State) : Result := emitUnknownSpecial 0x17#5 a s

/-- R113: reserved selector 0x18. -/
def execReservedSel18 (a : OperandCode) (s : State) : Result := emitUnknownSpecial 0x18#5 a s

/-- R113: reserved selector 0x19. -/
def execReservedSel19 (a : OperandCode) (s : State) : Result := emitUnknownSpecial 0x19#5 a s

/-- R113: reserved selector 0x1A. -/
def execReservedSel1A (a : OperandCode) (s : State) : Result := emitUnknownSpecial 0x1A#5 a s

/-- R113: reserved selector 0x1B. -/
def execReservedSel1B (a : OperandCode) (s : State) : Result := emitUnknownSpecial 0x1B#5 a s

/-- R113: reserved selector 0x1C. -/
def execReservedSel1C (a : OperandCode) (s : State) : Result := emitUnknownSpecial 0x1C#5 a s

/-- R113: reserved selector 0x1D. -/
def execReservedSel1D (a : OperandCode) (s : State) : Result := emitUnknownSpecial 0x1D#5 a s

/-- R113: reserved selector 0x1E. -/
def execReservedSel1E (a : OperandCode) (s : State) : Result := emitUnknownSpecial 0x1E#5 a s

/-- R113: reserved selector 0x1F. -/
def execReservedSel1F (a : OperandCode) (s : State) : Result := emitUnknownSpecial 0x1F#5 a s

end Sys2Proof.Machine
end

