-- ==== Sys2Proof/Machine/Special.lean ====
section
/-! DEFINITION. Meanings of the nine special rows. Calls, interrupts and device instructions are named in the line and nothing else (R127, R131, R136); the selector adds no length, HWN, HWQ and HWI included (R119). -/

namespace Sys2Proof.Machine

/-- R84, `JSR`. -/
def execJsr (a : OperandCode) (s : State) : Result := emitSpecial 0x01#5 .jsr a s

/-- R85, `INT`. -/
def execInt (a : OperandCode) (s : State) : Result := emitSpecial 0x08#5 .int a s

/-- R86, `IAG`. -/
def execIag (a : OperandCode) (s : State) : Result := emitSpecial 0x09#5 .iag a s

/-- R87, `IAS`. -/
def execIas (a : OperandCode) (s : State) : Result := emitSpecial 0x0A#5 .ias a s

/-- R88, `RFI`. -/
def execRfi (a : OperandCode) (s : State) : Result := emitSpecial 0x0B#5 .rfi a s

/-- R89, `IAQ`. -/
def execIaq (a : OperandCode) (s : State) : Result := emitSpecial 0x0C#5 .iaq a s

/-- R90, `HWN`. -/
def execHwn (a : OperandCode) (s : State) : Result := emitSpecial 0x10#5 .hwn a s

/-- R91, `HWQ`. -/
def execHwq (a : OperandCode) (s : State) : Result := emitSpecial 0x11#5 .hwq a s

/-- R92, `HWI`. -/
def execHwi (a : OperandCode) (s : State) : Result := emitSpecial 0x12#5 .hwi a s

end Sys2Proof.Machine
end

