-- ==== Sys2Proof/Machine/Dispatch.lean ====
section
/-! DEFINITION. One arm per row of spec/opcode_table.json. -/

namespace Sys2Proof.Machine

def exec (i : Instr) (s : State) : Host.Outcome State Fault Refusal :=
  match i with
  | .set b a => Sys2Proof.Machine.execSet b a s
  | .add b a => Sys2Proof.Machine.execAdd b a s
  | .sub b a => Sys2Proof.Machine.execSub b a s
  | .mul b a => Sys2Proof.Machine.execMul b a s
  | .mli b a => Sys2Proof.Machine.execMli b a s
  | .div b a => Sys2Proof.Machine.execDiv b a s
  | .dvi b a => Sys2Proof.Machine.execDvi b a s
  | .mod b a => Sys2Proof.Machine.execMod b a s
  | .mdi b a => Sys2Proof.Machine.execMdi b a s
  | .and b a => Sys2Proof.Machine.execAnd b a s
  | .bor b a => Sys2Proof.Machine.execBor b a s
  | .xor b a => Sys2Proof.Machine.execXor b a s
  | .shr b a => Sys2Proof.Machine.execShr b a s
  | .asr b a => Sys2Proof.Machine.execAsr b a s
  | .shl b a => Sys2Proof.Machine.execShl b a s
  | .ifb b a => Sys2Proof.Machine.execIfb b a s
  | .ifc b a => Sys2Proof.Machine.execIfc b a s
  | .ife b a => Sys2Proof.Machine.execIfe b a s
  | .ifn b a => Sys2Proof.Machine.execIfn b a s
  | .ifg b a => Sys2Proof.Machine.execIfg b a s
  | .ifa b a => Sys2Proof.Machine.execIfa b a s
  | .ifl b a => Sys2Proof.Machine.execIfl b a s
  | .ifu b a => Sys2Proof.Machine.execIfu b a s
  | .adx b a => Sys2Proof.Machine.execAdx b a s
  | .sbx b a => Sys2Proof.Machine.execSbx b a s
  | .sti b a => Sys2Proof.Machine.execSti b a s
  | .std b a => Sys2Proof.Machine.execStd b a s
  | .jsr a => Sys2Proof.Machine.execJsr a s
  | .int a => Sys2Proof.Machine.execInt a s
  | .iag a => Sys2Proof.Machine.execIag a s
  | .ias a => Sys2Proof.Machine.execIas a s
  | .rfi a => Sys2Proof.Machine.execRfi a s
  | .iaq a => Sys2Proof.Machine.execIaq a s
  | .hwn a => Sys2Proof.Machine.execHwn a s
  | .hwq a => Sys2Proof.Machine.execHwq a s
  | .hwi a => Sys2Proof.Machine.execHwi a s
  | .reservedOp18 b a => Sys2Proof.Machine.execReservedOp18 b a s
  | .reservedOp19 b a => Sys2Proof.Machine.execReservedOp19 b a s
  | .reservedOp1C b a => Sys2Proof.Machine.execReservedOp1C b a s
  | .reservedOp1D b a => Sys2Proof.Machine.execReservedOp1D b a s
  | .reservedSel00 a => Sys2Proof.Machine.execReservedSel00 a s
  | .reservedSel02 a => Sys2Proof.Machine.execReservedSel02 a s
  | .reservedSel03 a => Sys2Proof.Machine.execReservedSel03 a s
  | .reservedSel04 a => Sys2Proof.Machine.execReservedSel04 a s
  | .reservedSel05 a => Sys2Proof.Machine.execReservedSel05 a s
  | .reservedSel06 a => Sys2Proof.Machine.execReservedSel06 a s
  | .reservedSel07 a => Sys2Proof.Machine.execReservedSel07 a s
  | .reservedSel0D a => Sys2Proof.Machine.execReservedSel0D a s
  | .reservedSel0E a => Sys2Proof.Machine.execReservedSel0E a s
  | .reservedSel0F a => Sys2Proof.Machine.execReservedSel0F a s
  | .reservedSel13 a => Sys2Proof.Machine.execReservedSel13 a s
  | .reservedSel14 a => Sys2Proof.Machine.execReservedSel14 a s
  | .reservedSel15 a => Sys2Proof.Machine.execReservedSel15 a s
  | .reservedSel16 a => Sys2Proof.Machine.execReservedSel16 a s
  | .reservedSel17 a => Sys2Proof.Machine.execReservedSel17 a s
  | .reservedSel18 a => Sys2Proof.Machine.execReservedSel18 a s
  | .reservedSel19 a => Sys2Proof.Machine.execReservedSel19 a s
  | .reservedSel1A a => Sys2Proof.Machine.execReservedSel1A a s
  | .reservedSel1B a => Sys2Proof.Machine.execReservedSel1B a s
  | .reservedSel1C a => Sys2Proof.Machine.execReservedSel1C a s
  | .reservedSel1D a => Sys2Proof.Machine.execReservedSel1D a s
  | .reservedSel1E a => Sys2Proof.Machine.execReservedSel1E a s
  | .reservedSel1F a => Sys2Proof.Machine.execReservedSel1F a s

end Sys2Proof.Machine
end

