-- ==== Sys2Proof/Machine/Step.lean ====
section
/-! DEFINITION. One step of the sequencer (R121), and the host's placing of one instruction. -/

namespace Sys2Proof.Machine

/-- R121: while the run is not done, the instruction whose word is at the cursor.  When it is done there is
no step to take: the block holds its state until a reset (R137; notes/assumptions/4.md). -/
def step (s : State) : Host.Outcome State Fault Refusal :=
  if done s then .next s else exec (decode (instrWord s)) s

/-- The state with the instruction's two words at the cursor, and the stream long enough to hold them, so
that the run is not done and the very next step runs it.  It stands for the host's load (R138;
notes/assumptions/2.md). -/
def State.withFetchWord (s : State) (nbits w : Nat) : State :=
  { s with words := (s.words.put s.cursor (tableWord nbits w 0)).put (s.cursor + 1) (tableWord nbits w 1) }

end Sys2Proof.Machine
end

