-- ==== Sys2Proof/Machine/Flags.lean ====
section
/-! DEFINITION. The block has no flags, condition codes or predicates (R20).  What it has in their place
are the per-decode anomaly indications, computed from a line and stored nowhere (R20, R129). -/

namespace Sys2Proof.Machine

/-- R129: the four kinds of decode anomaly. -/
inductive Anomaly where
  | unknownOpcode
  | unknownSpecial
  | unassignedOperand
  | literalInB
deriving DecidableEq, Repr

/-- R129: the cause codes, the spec's own numbering (D15, notes/assumptions/17.md). -/
def anomalyCode : Anomaly → Nat
  | .unknownOpcode => 1
  | .unknownSpecial => 2
  | .unassignedOperand => 3
  | .literalInB => 4

/-- R129: `opAnom`. -/
def operandAnomalies : Operand → List Anomaly
  | .unknown _ .unassigned => [.unassignedOperand]
  | .unknown _ .literalInB => [.literalInB]
  | .reg _ => []
  | .regInd _ => []
  | .regIndOff _ _ => []
  | .push => []
  | .pop => []
  | .peek => []
  | .pick _ => []
  | .sp => []
  | .pc => []
  | .ex => []
  | .memAbs _ => []
  | .litWord _ => []
  | .litInline _ => []

/-- R129, R132: the anomalies of a decoded instruction, b before a. -/
def decodedAnomalies : Decoded → List Anomaly
  | .unknownOpcode _ => [.unknownOpcode]
  | .unknownSpecial _ => [.unknownSpecial]
  | .binary _ _ b a => operandAnomalies b ++ operandAnomalies a
  | .special _ _ a => operandAnomalies a

/-- R129: `Anomalies(line)`. -/
def lineAnomalies (l : Line) : List Anomaly := decodedAnomalies l.dec

end Sys2Proof.Machine
end

