-- ==== Sys2Proof/Machine/HostInterface.lean ====
section
/-! DEFINITION. What the host does to the block (R138 to R146): load, reset, run, collect.  None of these is
a step of the machine: a run takes no input (R6, R143). -/

namespace Sys2Proof.Machine

/-- R138: the host fills the word store and sets `n`. -/
def hostLoad (ws : List Word) (s : State) : State := { s with words := Memory.ofWords ws }

/-- R144: reset, at any time: cursor 0, output discarded, the store as it was. -/
def hostReset (s : State) : State := { s with cursor := 0, out := [] }

/-- A number of steps of the machine, stopping at a fault or a refusal, of which there is none (R128). -/
def runSteps : Nat → State → Result
  | 0, s => .next s
  | k + 1, s =>
    match step s with
    | .next s' => runSteps k s'
    | .fault r => .fault r
    | .refused r => .refused r

/-- R146: load, reset, run until done.  A run takes at most `n` steps, and a step after that changes
nothing (R123, R137). -/
def hostSession (ws : List Word) (s : State) : Result := runSteps ws.length (hostReset (hostLoad ws s))

/-! ### The Word Source and the exit status -/

/-- R138, R139: a token of the text source: hexadecimal digits, or one that does not parse. -/
inductive Token where
  | hex (digits : List (Fin 16))
  | bad
deriving DecidableEq, Repr

/-- R30, D13: the value of a hex token, most significant digit first. -/
def hexValue (digits : List (Fin 16)) : Nat := digits.foldl (fun v d => 16 * v + d.val) 0

/-- R138, R139: the k-th valid token becomes `words[k]` and a bad token is dropped.  `none` when some token's
value exceeds 0xFFFF: what the host does then is not the block's (D24; notes/assumptions/18.md). -/
def wordSource : List Token → Option (List Word)
  | [] => some []
  | .bad :: ts => wordSource ts
  | .hex ds :: ts =>
    if hexValue ds ≤ 0xFFFF then (wordSource ts).map (BitVec.ofNat 16 (hexValue ds) :: ·) else none

/-- R142: the exit status for a source that opened (`some n`, with its count of words) or not (`none`). -/
def exitStatus : Option Nat → Nat
  | none => 1
  | some n => if n = 0 then 1 else 0

end Sys2Proof.Machine
end

