-- ==== Sys2Proof/Machine/Tables.lean ====
section
/-! DEFINITION. The block's read-only tables (R17, R23, R54 to R56), as constants (R145).  They are state
that nothing writes and reset does not touch (R28), so they are definitions and no fields of State. -/

namespace Sys2Proof.Machine

/-- `BinTable` (R54, R55): a lookup with no side effect; `none` for the reserved codes and for 0. -/
def binTable (op : Field5) : Option BinMnemonic :=
  match op with
  | 0x01#5 => some .set
  | 0x02#5 => some .add
  | 0x03#5 => some .sub
  | 0x04#5 => some .mul
  | 0x05#5 => some .mli
  | 0x06#5 => some .div
  | 0x07#5 => some .dvi
  | 0x08#5 => some .mod
  | 0x09#5 => some .mdi
  | 0x0A#5 => some .and
  | 0x0B#5 => some .bor
  | 0x0C#5 => some .xor
  | 0x0D#5 => some .shr
  | 0x0E#5 => some .asr
  | 0x0F#5 => some .shl
  | 0x10#5 => some .ifb
  | 0x11#5 => some .ifc
  | 0x12#5 => some .ife
  | 0x13#5 => some .ifn
  | 0x14#5 => some .ifg
  | 0x15#5 => some .ifa
  | 0x16#5 => some .ifl
  | 0x17#5 => some .ifu
  | 0x1A#5 => some .adx
  | 0x1B#5 => some .sbx
  | 0x1E#5 => some .sti
  | 0x1F#5 => some .std
  | _ => none

/-- `SpecTable` (R54, R56): `none` for the 23 selectors that are absent. -/
def specTable (sel : Field5) : Option SpecMnemonic :=
  match sel with
  | 0x01#5 => some .jsr
  | 0x08#5 => some .int
  | 0x09#5 => some .iag
  | 0x0A#5 => some .ias
  | 0x0B#5 => some .rfi
  | 0x0C#5 => some .iaq
  | 0x10#5 => some .hwn
  | 0x11#5 => some .hwq
  | 0x12#5 => some .hwi
  | _ => none

/-- `RegName` (R17): A, B, C, X, Y, Z, I, J. -/
def regName (r : Fin 8) : String :=
  match r with
  | 0 => "A"
  | 1 => "B"
  | 2 => "C"
  | 3 => "X"
  | 4 => "Y"
  | 5 => "Z"
  | 6 => "I"
  | 7 => "J"

end Sys2Proof.Machine
end

