-- ==== Sys2Proof/Machine/Render.lean ====
section
/-! DEFINITION. The text of a line (R52, R53, R117), over the text parameters, and the spec's defaults for
them (D6, D7, D8, D23: notes/assumptions/5.md to 8.md). -/

namespace Sys2Proof.Machine

/-- R53: `RenderOp`. -/
def renderOperand (cfg : TextConfig) : Operand → String
  | .reg r => regName r
  | .regInd r => "[" ++ regName r ++ "]"
  | .regIndOff r t => "[" ++ regName r ++ " + " ++ cfg.fmtWord t ++ "]"
  | .push => cfg.names.push
  | .pop => cfg.names.pop
  | .peek => cfg.names.peek
  | .pick t => cfg.names.pick ++ " " ++ cfg.fmtWord t
  | .sp => cfg.names.sp
  | .pc => cfg.names.pc
  | .ex => cfg.names.ex
  | .memAbs t => "[" ++ cfg.fmtWord t ++ "]"
  | .litWord t => cfg.fmtWord t
  | .litInline v => cfg.fmtLit v.val
  | .unknown _ _ => cfg.unknownOperand

/-- R117: `Render`. -/
def render (cfg : TextConfig) : Decoded → String
  | .binary _ m b a => cfg.binName m ++ " " ++ renderOperand cfg b ++ ", " ++ renderOperand cfg a
  | .special _ m a => cfg.specName m ++ " " ++ renderOperand cfg a
  | .unknownOpcode _ => cfg.unknownOpcode
  | .unknownSpecial _ => cfg.unknownSpecial

/-! ### Defaults -/

/-- One upper-case hexadecimal digit. -/
def hexDigit (d : Nat) : Char :=
  match d with
  | 0 => '0' | 1 => '1' | 2 => '2' | 3 => '3' | 4 => '4' | 5 => '5' | 6 => '6' | 7 => '7'
  | 8 => '8' | 9 => '9' | 10 => 'A' | 11 => 'B' | 12 => 'C' | 13 => 'D' | 14 => 'E' | _ => 'F'

/-- D8: a trailing word as `0x` and four upper-case hexadecimal digits. -/
def fmtWordHex (t : Word) : String :=
  let n := t.toNat
  String.ofList ['0', 'x', hexDigit (n / 4096 % 16), hexDigit (n / 256 % 16), hexDigit (n / 16 % 16), hexDigit (n % 16)]

/-- The decimal digit pair of a number below 100, without a leading zero. -/
def decimalBelow100 (n : Nat) : String :=
  if n < 10 then String.ofList [hexDigit n] else String.ofList [hexDigit (n / 10 % 10), hexDigit (n % 10)]

/-- D8: an inline literal in signed decimal; the literals are −1..30 (R107). -/
def fmtLitDecimal (v : Int) : String :=
  if v < 0 then "-" ++ decimalBelow100 v.natAbs else decimalBelow100 v.natAbs

/-- D6: the binary mnemonics of R55. -/
def defaultBinName : BinMnemonic → String
  | .set => "SET" | .add => "ADD" | .sub => "SUB" | .mul => "MUL" | .mli => "MLI" | .div => "DIV" | .dvi => "DVI"
  | .mod => "MOD" | .mdi => "MDI" | .and => "AND" | .bor => "BOR" | .xor => "XOR" | .shr => "SHR" | .asr => "ASR"
  | .shl => "SHL" | .ifb => "IFB" | .ifc => "IFC" | .ife => "IFE" | .ifn => "IFN" | .ifg => "IFG" | .ifa => "IFA"
  | .ifl => "IFL" | .ifu => "IFU" | .adx => "ADX" | .sbx => "SBX" | .sti => "STI" | .std => "STD"

/-- D6: the special mnemonics of R56. -/
def defaultSpecName : SpecMnemonic → String
  | .jsr => "JSR" | .int => "INT" | .iag => "IAG" | .ias => "IAS" | .rfi => "RFI" | .iaq => "IAQ"
  | .hwn => "HWN" | .hwq => "HWQ" | .hwi => "HWI"

/-- D7. -/
def defaultNames : RenderNames where
  push := "PUSH"
  pop := "POP"
  peek := "PEEK"
  pick := "PICK"
  sp := "SP"
  pc := "PC"
  ex := "EX"

/-- The spec's default text parameters. -/
def defaultText : TextConfig where
  binName := defaultBinName
  specName := defaultSpecName
  names := defaultNames
  fmtWord := fmtWordHex
  fmtLit := fmtLitDecimal
  unknownOpcode := "unknown opcode"
  unknownSpecial := "unknown special opcode"
  unknownOperand := "unknown operand"

/-- R140: the text of the output, one line of text per line, in order. -/
def outputText (cfg : TextConfig) (out : List Line) : List String := out.map fun l => render cfg l.dec

end Sys2Proof.Machine
end

