-- ==== Sys2Proof/Machine/InstructionDecoder.lean ====
section
/-! DEFINITION. The combinational instruction decoder ID, as R111 writes it: one function of the instruction
word and the word after it, over the two opcode tables.  The machine does not run it: `exec` has one meaning
per row, and that the two agree is a statement for the provers. -/

namespace Sys2Proof.Machine

/-- R111: the decoded instruction. -/
def idDecoded (w t : Word) : Decoded :=
  if fxOp w = 0 then
    match specTable (fxB w) with
    | some m => .special (fxB w) m (od (fxA w) t .a).1                                   -- R112
    | none => .unknownSpecial (fxB w)                                                    -- R113
  else
    match binTable (fxOp w) with
    | some m => .binary (fxOp w) m (od (zext6 (fxB w)) t .b).1 (od (fxA w) t .a).1       -- R114
    | none => .unknownOpcode (fxOp w)                                                    -- R115

/-- R111: `ID(w, t) = (dec, len)`. -/
def idBlock (w t : Word) : Decoded × Len := (idDecoded w t, wordLen w)

end Sys2Proof.Machine
end

