-- ==== Sys2Proof/Machine/Sequencer.lean ====
section
/-! DEFINITION. The sequencer as the spec writes it over the instruction decoder: the run of
R125 and the boundaries of R126.  References that statements compare the machine with. -/

namespace Sys2Proof.Machine

/-- R125: `go`, with a bound on the number of lines. -/
def runFrom (m : Memory) : Nat → Nat → List Line → Nat × List Line
  | 0, i, out => (i, out)
  | k + 1, i, out =>
    if m.n ≤ i then (i, out)
    else
      let r := idBlock (m.wordAt i) (m.wordAt (i + 1))
      runFrom m k (i + r.2.words) (out ++ [{ addr := i, len := r.2, dec := r.1 }])

/-- R125: `Run`: the final cursor and the lines.  `n` steps are enough (R123). -/
def run (m : Memory) : Nat × List Line := runFrom m m.n 0 []

/-- R126: the instruction boundaries, `b_0 = 0` and `b_(k+1) = b_k + Len(words[b_k])`. -/
def boundary (m : Memory) : Nat → Nat
  | 0 => 0
  | k + 1 => boundary m k + (wordLen (m.wordAt (boundary m k))).words

/-- R19, D10: the cursor as a register of `width` bits holds it. -/
def cursorPort (width c : Nat) : BitVec width := BitVec.ofNat width c

end Sys2Proof.Machine
end

