-- ==== Sys2Proof/Safety.lean ====
section
/-! DEFINITION. What a state of a sound run looks like, in the terms the statements use. -/

namespace Sys2Proof.Safety

open Sys2Proof.Machine

/-- R121, R26: the line is what ID gives at its own address, and that address holds a word. -/
abbrev LineOk (m : Memory) (l : Line) : Prop :=
  l.addr < m.n ∧ idBlock (m.wordAt l.addr) (m.wordAt (l.addr + 1)) = (l.dec, l.len)

/-- R126: the lines lie end to end from index `i` to index `j`. -/
def chained (i : Nat) : List Line → Nat → Bool
  | [], j => decide (i = j)
  | l :: ls, j => decide (l.addr = i) && chained (i + l.len.words) ls j

/-- The invariant of a run: the store is canonical, the lines lie end to end from index 0 to the cursor, and
each is what the store's words decode to (R24, R26, R121, R126). -/
abbrev RunInv (s : State) : Prop :=
  s.words.wf = true ∧ chained 0 s.out s.cursor = true ∧ ∀ l ∈ s.out, LineOk s.words l

end Sys2Proof.Safety
end

