-- ==== Sys2Proof/Certificates/Slice0/Obligations.lean ====
section
/-! DEFINITION. The statements for the provers. -/

open Sys2Proof Sys2Proof.Machine Sys2Proof.Safety

/-! ### The next state of each shape of instruction, as the rules give it

Every field that is not written is named by `s with` alone: the word store is unchanged, and the only writes
are the line appended and the cursor (R34, R121). -/

/-- R57 to R83 and R121: the state after a binary instruction with opcode `op` and operand codes `b`, `a`. -/
def Expected.binary (op : Field5) (m : BinMnemonic) (b a : OperandCode) (s : State) : State :=
  let t := s.words.wordAt (s.cursor + 1)
  { s with
    cursor := s.cursor + (if consumes b = true ∨ consumes a = true then 2 else 1)
    out := s.out ++ [⟨s.cursor, if consumes b = true ∨ consumes a = true then .two else .one,
      .binary op m (od b t .b).1 (od a t .a).1⟩] }

/-- R84 to R92 and R121: the state after a special instruction. -/
def Expected.special (sel : Field5) (m : SpecMnemonic) (a : OperandCode) (s : State) : State :=
  { s with
    cursor := s.cursor + (if consumes a = true then 2 else 1)
    out := s.out ++ [⟨s.cursor, if consumes a = true then .two else .one,
      .special sel m (od a (s.words.wordAt (s.cursor + 1)) .a).1⟩] }

/-- A row of the binary table: its encoding, its table entry, and its complete effect in every state. -/
def Expected.BinaryRow (op : Field5) (m : BinMnemonic) (ctor : OperandCode → OperandCode → Instr) : Prop :=
  (∀ (bf : Field5) (a : OperandCode), decode (packFields op bf a) = ctor (zext6 bf) a) ∧
  binTable op = some m ∧
  ∀ (b a : OperandCode) (s : State), exec (ctor b a) s = .next (Expected.binary op m b a s)

/-- A row of the special table. -/
def Expected.SpecialRow (sel : Field5) (m : SpecMnemonic) (ctor : OperandCode → Instr) : Prop :=
  (∀ a : OperandCode, decode (packFields 0 sel a) = ctor a) ∧
  specTable sel = some m ∧
  ∀ (a : OperandCode) (s : State), exec (ctor a) s = .next (Expected.special sel m a s)

/-- A reserved opcode (R115): no table entry, a placeholder line, the length of the field formula. -/
def Expected.ReservedOpcodeRow (op : Field5) (ctor : OperandCode → OperandCode → Instr) : Prop :=
  (∀ (bf : Field5) (a : OperandCode), decode (packFields op bf a) = ctor (zext6 bf) a) ∧
  binTable op = none ∧
  ∀ (b a : OperandCode) (s : State), exec (ctor b a) s = .next { s with
    cursor := s.cursor + (if consumes b = true ∨ consumes a = true then 2 else 1)
    out := s.out ++ [⟨s.cursor, if consumes b = true ∨ consumes a = true then .two else .one,
      .unknownOpcode op⟩] }

/-- An absent selector (R113). -/
def Expected.ReservedSelectorRow (sel : Field5) (ctor : OperandCode → Instr) : Prop :=
  (∀ a : OperandCode, decode (packFields 0 sel a) = ctor a) ∧
  specTable sel = none ∧
  ∀ (a : OperandCode) (s : State), exec (ctor a) s = .next { s with
    cursor := s.cursor + (if consumes a = true then 2 else 1)
    out := s.out ++ [⟨s.cursor, if consumes a = true then .two else .one, .unknownSpecial sel⟩] }

/-- R129: `opAnom`, as the rule writes it: the cause codes of an operand. -/
def Expected.opCodes : Operand → List Nat
  | .unknown _ .unassigned => [3]
  | .unknown _ .literalInB => [4]
  | _ => []

/-- R130: the same form and the same operand codes that count for it: b and a for the binary form, a alone for
the special form (D4). -/
def Expected.SameFormAndCodes (w w' : Word) : Prop :=
  (fxOp w ≠ 0 ∧ fxOp w' ≠ 0 ∧ fxB w = fxB w' ∧ fxA w = fxA w') ∨ (fxOp w = 0 ∧ fxOp w' = 0 ∧ fxA w = fxA w')

/-! ### The statements -/

/-- For every word w the fields are w & 0x1F, (w >> 5) & 0x1F and (w >> 10) & 0x3F; every triple of fields comes
from exactly one word; and w is (af << 10) | (bf << 5) | op of its own fields. [stated: R43] -/
def Obligations.FieldsAreSlicesAndBijective : Prop :=
  (∀ w : Word, (fxOp w).setWidth 16 = w &&& 0x001F#16 ∧ (fxB w).setWidth 16 = (w >>> 5) &&& 0x001F#16 ∧
    (fxA w).setWidth 16 = (w >>> 10) &&& 0x003F#16) ∧
  (∀ (op bf : Field5) (af : OperandCode), ∃! w : Word, fxOp w = op ∧ fxB w = bf ∧ fxA w = af) ∧
  ∀ w : Word, w = ((fxA w).setWidth 16 <<< 10) ||| ((fxB w).setWidth 16 <<< 5) ||| (fxOp w).setWidth 16

/-- For every word and trailing word: the decoded value is of the special form (recognized or not) exactly when
the opcode field is 0, and of the binary form (recognized or not) exactly when it is not 0. [stated: R44] -/
def Obligations.FormIsDecidedByOpcodeAlone : Prop :=
  ∀ w t : Word,
    ((∃ m a, idDecoded w t = .special (fxB w) m a) ∨ idDecoded w t = .unknownSpecial (fxB w) ↔ fxOp w = 0) ∧
    ((∃ m b a, idDecoded w t = .binary (fxOp w) m b a) ∨ idDecoded w t = .unknownOpcode (fxOp w) ↔ fxOp w ≠ 0)

/-- For every well-formed instruction of all 63 rows, with every operand code its encoding admits, decode (encode
i) = i. [derived: 30_encoding.md section 1, 30_encoding.md section 2] -/
def Obligations.DecodeOfEncodeIsTheInstruction : Prop :=
  ∀ i : Instr, WellFormed i → decode (encode i) = i

/-- For every 16-bit word w: decode w is well formed (its b code, if any, is below 0x20), and encoding it gives w
back, so no bit is dropped and no word is left without an instruction. [derived: 30_encoding.md section 1,
30_encoding.md section 4] -/
def Obligations.EncodeOfDecodeIsTheWord : Prop :=
  ∀ w : Word, WellFormed (decode w) ∧ encode (decode w) = w

/-- One written-out word of each family: SET A, 0; AND B, t; IFE A, 16; STI [I], [J + t]; JSR t; HWI PICK t; the
reserved opcode 0x18; the absent selector 0x02. [derived: 40_opcode_tables.md section 2, 40_opcode_tables.md
section 3, 42_instruction_decoder.md section 1] -/
def Obligations.WrittenWordsDecode : Prop :=
  decode 0x8401 = .set 0x00 0x21 ∧ decode 0x7C2A = .and 0x01 0x1F ∧ decode 0xC412 = .ife 0x00 0x31 ∧
  decode 0x55BE = .sti 0x0D 0x15 ∧ decode 0x7C20 = .jsr 0x1F ∧ decode 0x6A40 = .hwi 0x1A ∧
  decode 0x7C18 = .reservedOp18 0x00 0x1F ∧ decode 0x7C40 = .reservedSel02 0x1F

/-- A code consumes exactly when it is in 0x0E..0x15 or is 0x1A, 0x1E or 0x1F; 11 of the 64 codes do; the consumed
output of the operand decoder is this predicate whatever the position and the trailing word, and is true
exactly for the arms register-offset, pick, absolute memory and absolute literal; the length of a word of the
binary form is two exactly when one of its two codes consumes, the reserved opcodes included (for those it is
the spec own decision D5, log entry 11). [derived: 30_encoding.md section 2, 41_operand_decoder.md section 7,
43_sequencer.md section 1, 92_eei_decisions.md D5] -/
def Obligations.ConsumingCodesAreElevenAndAgree : Prop :=
  (∀ c : OperandCode, consumes c = true ↔
    (0x0E#6 ≤ c ∧ c ≤ 0x15#6) ∨ c = 0x1A#6 ∨ c = 0x1E#6 ∨ c = 0x1F#6) ∧
  ((List.range 64).countP fun k => consumes (BitVec.ofNat 6 k)) = 11 ∧
  (∀ (c : OperandCode) (t : Word) (pos : Pos), (od c t pos).2 = consumes c ∧
    ((od c t pos).2 = true ↔ (∃ r, (od c t pos).1 = .regIndOff r t) ∨ (od c t pos).1 = .pick t ∨
      (od c t pos).1 = .memAbs t ∨ (od c t pos).1 = .litWord t)) ∧
  ∀ w : Word, fxOp w ≠ 0 →
    (wordLen w = .two ↔ consumes (zext6 (fxB w)) = true ∨ consumes (fxA w) = true)

/-- The binary table has an entry for a code exactly when it is in 0x01..0x1F and is none of 0x18, 0x19, 0x1C,
0x1D (27 codes); the special table exactly for 0x01, 0x08..0x0C and 0x10..0x12 (9 selectors); no two codes of
a table share an entry. (The codes are those of R54, R55 and R56. That the entries are 27 and 9 distinct names
rests on the names of R55 and R56, which are the spec own supply from general knowledge, D6, log entry 5,
PRESUMED.) [derived: 40_opcode_tables.md section 1, 92_eei_decisions.md D6] -/
def Obligations.TablesHoldExactlyTheirCodes : Prop :=
  (∀ op : Field5, (binTable op).isSome = true ↔
    op ≠ 0x00#5 ∧ op ≠ 0x18#5 ∧ op ≠ 0x19#5 ∧ op ≠ 0x1C#5 ∧ op ≠ 0x1D#5) ∧
  (∀ sel : Field5, (specTable sel).isSome = true ↔
    sel = 0x01#5 ∨ (0x08#5 ≤ sel ∧ sel ≤ 0x0C#5) ∨ (0x10#5 ≤ sel ∧ sel ≤ 0x12#5)) ∧
  (∀ op op' : Field5, (binTable op).isSome = true → binTable op = binTable op' → op = op') ∧
  (∀ sel sel' : Field5, (specTable sel).isSome = true → specTable sel = specTable sel' → sel = sel')

/-- Codes 0x00..0x06 give Reg code, not consumed; 0x07..0x0D give RegInd (code - 7), not consumed; 0x0E..0x15 give
RegIndOff (code - 0x0E) t, consumed; in both positions, with no anomaly, and with the register name of that
index in the text; no code gives Reg 7 or RegInd 7 and only 0x15 gives RegIndOff 7; the names are
A,B,C,X,Y,Z,I,J. [stated: R94, R95, R96] -/
def Obligations.RegisterModesNameTheirRegister : Prop :=
  (∀ (c : OperandCode) (t : Word) (pos : Pos), c ≤ 0x06#6 →
    ∃ r : Fin 8, r.val = c.toNat ∧ od c t pos = (.reg r, false) ∧ operandAnomalies (.reg r) = [] ∧
      ∀ cfg, renderOperand cfg (.reg r) = regName r) ∧
  (∀ (c : OperandCode) (t : Word) (pos : Pos), 0x07#6 ≤ c → c ≤ 0x0D#6 →
    ∃ r : Fin 8, r.val = c.toNat - 0x07 ∧ od c t pos = (.regInd r, false) ∧ operandAnomalies (.regInd r) = [] ∧
      ∀ cfg, renderOperand cfg (.regInd r) = "[" ++ regName r ++ "]") ∧
  (∀ (c : OperandCode) (t : Word) (pos : Pos), 0x0E#6 ≤ c → c ≤ 0x15#6 →
    ∃ r : Fin 8, r.val = c.toNat - 0x0E ∧ od c t pos = (.regIndOff r t, true) ∧
      operandAnomalies (.regIndOff r t) = [] ∧
      ∀ cfg, renderOperand cfg (.regIndOff r t) = "[" ++ regName r ++ " + " ++ cfg.fmtWord t ++ "]") ∧
  (∀ (c : OperandCode) (t : Word) (pos : Pos), (od c t pos).1 ≠ .reg 7 ∧ (od c t pos).1 ≠ .regInd 7 ∧
    ((od c t pos).1 = .regIndOff 7 t ↔ c = 0x15#6)) ∧
  (∀ (m : Memory), m.wordAt m.n = 0x0000#16) ∧
  (List.finRange 8).map regName = ["A", "B", "C", "X", "Y", "Z", "I", "J"]

/-- Codes 0x16 and 0x17, in either position and for every trailing word, give Unknown code Unassigned, not
consumed, an unassigned-operand anomaly, rendered as the unknown-operand placeholder; no other code does; an
instruction whose opcode or selector is in its table is emitted with its mnemonic whatever its operands; and
the word 0x02E1 has op 0x01, bf 0x17, af 0x00. [stated: R97] -/
def Obligations.UnassignedCodesAreUnknownOperands : Prop :=
  (∀ (c : OperandCode) (t : Word) (pos : Pos), c = 0x16#6 ∨ c = 0x17#6 →
    od c t pos = (.unknown c .unassigned, false) ∧
    operandAnomalies (od c t pos).1 = [.unassignedOperand] ∧
    ∀ cfg, renderOperand cfg (od c t pos).1 = cfg.unknownOperand) ∧
  (∀ (c c' : OperandCode) (t : Word) (pos : Pos), (od c t pos).1 = .unknown c' .unassigned →
    c = c' ∧ (c = 0x16#6 ∨ c = 0x17#6)) ∧
  (∀ (w t : Word) (m : BinMnemonic), fxOp w ≠ 0 → binTable (fxOp w) = some m →
    ∃ b a, idDecoded w t = .binary (fxOp w) m b a) ∧
  (∀ (w t : Word) (m : SpecMnemonic), fxOp w = 0 → specTable (fxB w) = some m →
    ∃ a, idDecoded w t = .special (fxB w) m a) ∧
  fxOp 0x02E1#16 = 0x01#5 ∧ fxB 0x02E1#16 = 0x17#5 ∧ fxA 0x02E1#16 = 0x00#6

/-- Code 0x18 is Push in position b and Pop in position a, 0x19 is Peek, 0x1A is Pick t (consumed), with no
anomaly; the first two render differently under all admissible spellings; from an instruction word Push occurs
only as operand b and Pop only as operand a of a binary or the operand of a special instruction. [stated: R98,
R99, R100, R101] -/
def Obligations.StackOperandsDependOnPosition : Prop :=
  (∀ t : Word, od 0x18 t .b = (.push, false) ∧ od 0x18 t .a = (.pop, false)) ∧
  (∀ (t : Word) (pos : Pos), od 0x19 t pos = (.peek, false) ∧ od 0x1A t pos = (.pick t, true)) ∧
  (∀ t : Word, operandAnomalies .push = [] ∧ operandAnomalies .pop = [] ∧ operandAnomalies .peek = [] ∧
    operandAnomalies (.pick t) = []) ∧
  (∀ cfg : TextConfig, cfg.names.Admissible → renderOperand cfg .push ≠ renderOperand cfg .pop) ∧
  (∀ (w t : Word) (op : Field5) (m : BinMnemonic) (b a : Operand), idDecoded w t = .binary op m b a →
    b ≠ .pop ∧ a ≠ .push) ∧
  (∀ (w t : Word) (sel : Field5) (m : SpecMnemonic) (a : Operand), idDecoded w t = .special sel m a → a ≠ .push) ∧
  (∀ (t : Word) (sel : Field5) (m : SpecMnemonic), specTable sel = some m →
    idDecoded (packFields 0 sel 0x18) t = .special sel m .pop)

/-- Codes 0x1B, 0x1C and 0x1D give SP, PC and EX in both positions, for every trailing word, not consumed, with no
anomaly, rendered as the spellings N.sp, N.pc and N.ex, by default SP, PC and EX (D7, log entry 6); and SET
PC, a advances the cursor by its length like any other instruction. [derived: 41_operand_decoder.md section 5,
92_eei_decisions.md D7] -/
def Obligations.FixedRegisterOperandsAreNames : Prop :=
  (∀ (t : Word) (pos : Pos), od 0x1B t pos = (.sp, false) ∧ od 0x1C t pos = (.pc, false) ∧
    od 0x1D t pos = (.ex, false)) ∧
  operandAnomalies .sp = [] ∧ operandAnomalies .pc = [] ∧ operandAnomalies .ex = [] ∧
  (∀ cfg : TextConfig, renderOperand cfg .sp = cfg.names.sp ∧ renderOperand cfg .pc = cfg.names.pc ∧
    renderOperand cfg .ex = cfg.names.ex) ∧
  defaultText.names.sp = "SP" ∧ defaultText.names.pc = "PC" ∧ defaultText.names.ex = "EX" ∧
  ∀ (a : OperandCode) (s : State), ∃ s' : State, exec (.set 0x1C a) s = .next s' ∧
    s'.cursor = s.cursor + (if consumes a = true then 2 else 1)

/-- Code 0x1E gives MemAbs t and 0x1F gives LitWord t in both positions, consumed, with no anomaly, rendered [t]
and t; a binary instruction with both operands 0x1E shows the same t twice; and the words 0x7C01, 0x0005
decode, with length 2, to the instruction of opcode 0x01 with register 0 and the literal 5. [stated: R105,
R106] -/
def Obligations.MemoryAndLiteralOperandsTakeTheTrailingWord : Prop :=
  (∀ (t : Word) (pos : Pos), od 0x1E t pos = (.memAbs t, true) ∧ od 0x1F t pos = (.litWord t, true) ∧
    operandAnomalies (.memAbs t) = [] ∧ operandAnomalies (.litWord t) = []) ∧
  (∀ (cfg : TextConfig) (t : Word), renderOperand cfg (.memAbs t) = "[" ++ cfg.fmtWord t ++ "]" ∧
    renderOperand cfg (.litWord t) = cfg.fmtWord t) ∧
  (∀ (op : Field5) (m : BinMnemonic) (t : Word), binTable op = some m →
    idDecoded (packFields op 0x1E 0x1E) t = .binary op m (.memAbs t) (.memAbs t)) ∧
  ∀ m : BinMnemonic, binTable 0x01 = some m →
    idBlock 0x7C01 0x0005 = (.binary 0x01 m (.reg 0) (.litWord 0x0005), .two)

/-- Codes 0x20..0x3F in position a give LitInline (code - 0x21), for every trailing word, not consumed, with no
anomaly; every integer -1..30 comes from exactly one of these codes; code 0x20 gives -1, 0x21 gives 0, 0x3F
gives 30; on a 16-bit port every one of them is in two's complement, so -1 is 0xFFFF (D9, log entry 15).
[derived: 41_operand_decoder.md section 6, 92_eei_decisions.md D9] -/
def Obligations.InlineLiteralsAreABijection : Prop :=
  (∀ (c : OperandCode) (t : Word), 0x20#6 ≤ c → ∃ v : Lit, v.val = (c.toNat : Int) - 0x21 ∧
    od c t .a = (.litInline v, false) ∧ operandAnomalies (.litInline v) = []) ∧
  (∀ v : Int, -1 ≤ v → v ≤ 30 →
    ∃! c : OperandCode, 0x20#6 ≤ c ∧ ∃ l : Lit, l.val = v ∧ ∀ t : Word, (od c t .a).1 = .litInline l) ∧
  (∀ t : Word, (od 0x20 t .a).1 = .litInline ⟨-1, by decide⟩ ∧ (od 0x21 t .a).1 = .litInline ⟨0, by decide⟩ ∧
    (od 0x3F t .a).1 = .litInline ⟨30, by decide⟩) ∧
  (∀ v : Lit, (litPort v).toInt = v.val) ∧ litPort ⟨-1, by decide⟩ = 0xFFFF#16

/-- Codes 0x20..0x3F in position b give Unknown code LiteralInB, for every trailing word, not consumed, a literal-
in-b anomaly, rendered as the unknown-operand placeholder; no instruction word and trailing word give a
decoded value with that anomaly. [stated: R108] -/
def Obligations.LiteralCodeInPositionBIsUnknown : Prop :=
  (∀ (c : OperandCode) (t : Word), 0x20#6 ≤ c → od c t .b = (.unknown c .literalInB, false) ∧
    operandAnomalies (od c t .b).1 = [.literalInB] ∧
    ∀ cfg, renderOperand cfg (od c t .b).1 = cfg.unknownOperand) ∧
  ∀ w t : Word, Anomaly.literalInB ∉ decodedAnomalies (idDecoded w t)

/-- The position changes the operand exactly for code 0x18 and codes 0x20..0x3F. The trailing word changes it
exactly for the consuming codes: a code that does not consume gives the same operand for all trailing words,
and a code that does gives different operands for different trailing words. [derived: 41_operand_decoder.md
section 7] -/
def Obligations.PositionAndTrailingWordMatterOnlyWhere : Prop :=
  (∀ (c : OperandCode) (t : Word), od c t .b = od c t .a ↔ ¬ (c = 0x18#6 ∨ 0x20#6 ≤ c)) ∧
  (∀ (c : OperandCode) (t t' : Word) (pos : Pos), t ≠ t' →
    (od c t pos = od c t' pos ↔ consumes c = false))

/-- If the opcode field is 0 and the selector is in the special table, the decoded value is Special with that
selector, its mnemonic and operand a decoded in position a; if the opcode is not 0 and is in the binary table,
it is Binary with both operands, b in position b and a in position a, with the same trailing word; with the
examples of both rules; and the text of both forms, for all operands, an unknown operand as the placeholder in
its place. [stated: R112, R114] -/
def Obligations.RecognizedFormsDecodeTheirOperands : Prop :=
  (∀ (w t : Word) (m : SpecMnemonic), fxOp w = 0 → specTable (fxB w) = some m →
    idDecoded w t = .special (fxB w) m (od (fxA w) t .a).1) ∧
  (∀ (w t : Word) (m : BinMnemonic), fxOp w ≠ 0 → binTable (fxOp w) = some m →
    idDecoded w t = .binary (fxOp w) m (od (zext6 (fxB w)) t .b).1 (od (fxA w) t .a).1) ∧
  (∀ m : SpecMnemonic, specTable 0x01 = some m →
    idBlock 0x7C20 0x0020 = (.special 0x01 m (.litWord 0x0020), .two)) ∧
  (∀ (t : Word) (m : BinMnemonic), binTable 0x01 = some m →
    idBlock 0x8401 t = (.binary 0x01 m (.reg 0) (.litInline ⟨0, by decide⟩), .one)) ∧
  (∀ (cfg : TextConfig) (sel : Field5) (m : SpecMnemonic) (a : Operand),
    render cfg (.special sel m a) = cfg.specName m ++ " " ++ renderOperand cfg a) ∧
  (∀ (cfg : TextConfig) (op : Field5) (m : BinMnemonic) (b a : Operand),
    render cfg (.binary op m b a) =
      cfg.binName m ++ " " ++ renderOperand cfg b ++ ", " ++ renderOperand cfg a) ∧
  (∀ (cfg : TextConfig) (c : OperandCode) (why : UnknownCause),
    renderOperand cfg (.unknown c why) = cfg.unknownOperand)

/-- If the opcode field is 0 and the selector is absent from the special table, the decoded value is
UnknownSpecial of the selector; if the opcode is not 0 and absent from the binary table, UnknownOpcode of the
opcode; and the length is still computed from the operand codes. (That no operand is carried and that the
length is the field formula is the spec own decision D5, log entry 11; that the length of the special form
tests operand a alone, also where the selector is itself a consuming value, such as 0x0E or 0x1F, is decision
D4, log entry 10.) [derived: 42_instruction_decoder.md section 1, 43_sequencer.md section 1,
92_eei_decisions.md D4, 92_eei_decisions.md D5] -/
def Obligations.UnrecognizedFormsKeepTheirCodeAndLength : Prop :=
  (∀ w t : Word, fxOp w = 0 → specTable (fxB w) = none →
    idBlock w t = (.unknownSpecial (fxB w), if consumes (fxA w) = true then .two else .one)) ∧
  (∀ w t : Word, fxOp w ≠ 0 → binTable (fxOp w) = none →
    idBlock w t = (.unknownOpcode (fxOp w),
      if consumes (zext6 (fxB w)) = true ∨ consumes (fxA w) = true then .two else .one))

/-- For every word and trailing word: if the decoded value is Binary, the length in words is 1, plus 1 if either
of the two operand decodes reported consumed; if Special, 1 plus 1 if the operand a decode did, whatever the
selector (decision D4, log entry 10). [derived: 43_sequencer.md section 1, 92_eei_decisions.md D4] -/
def Obligations.LengthAgreesWithTheDecodedOperands : Prop :=
  ∀ w t : Word,
    (∀ op m b a, idDecoded w t = .binary op m b a →
      (wordLen w).words =
        1 + (if (od (zext6 (fxB w)) t .b).2 = true ∨ (od (fxA w) t .a).2 = true then 1 else 0)) ∧
    (∀ sel m a, idDecoded w t = .special sel m a →
      (wordLen w).words = 1 + (if (od (fxA w) t .a).2 = true then 1 else 0))

/-- If the length of a word is one, it decodes the same for all trailing words; and a word that decodes to
UnknownOpcode or UnknownSpecial for one trailing word decodes the same for all. [derived:
42_instruction_decoder.md section 1] -/
def Obligations.DecodedValueIgnoresAnUnconsumedTrailingWord : Prop :=
  (∀ w t t' : Word, wordLen w = .one → idBlock w t = idBlock w t') ∧
  (∀ (w t t' : Word) (k : Field5), idDecoded w t = .unknownOpcode k ∨ idDecoded w t = .unknownSpecial k →
    idBlock w t' = idBlock w t)

/-- An unrecognized opcode or selector is the only anomaly of its instruction; a recognized binary instruction
carries one unassigned-operand anomaly for b if bf is 0x16 or 0x17, then one for a if af is; a recognized
special instruction one for a. For a sequence of lines the anomalies are those of each line, in the order of
the lines. [stated: R132] -/
def Obligations.AnomaliesOfEveryWordInOrder : Prop :=
  (∀ w t : Word, decodedAnomalies (idDecoded w t) =
    if fxOp w = 0 then
      if specTable (fxB w) = none then [.unknownSpecial]
      else if fxA w = 0x16#6 ∨ fxA w = 0x17#6 then [.unassignedOperand] else []
    else
      if binTable (fxOp w) = none then [.unknownOpcode]
      else (if fxB w = 0x16#5 ∨ fxB w = 0x17#5 then [.unassignedOperand] else []) ++
        (if fxA w = 0x16#6 ∨ fxA w = 0x17#6 then [.unassignedOperand] else [])) ∧
  (∀ (l : Line) (ls : List Line), (ls ++ [l]).flatMap lineAnomalies = ls.flatMap lineAnomalies ++ decodedAnomalies l.dec)

/-- The cause codes of a line are [1] for an unknown opcode and [2] for an unknown special opcode; for a binary
line, whatever its two operands, the codes of b then those of a; and for a special line, whatever its operand,
the codes of a. The codes of an operand are [3] if it is unknown for an unassigned code, [4] if it is unknown
for a literal in b, and none if it is known (numbering D15, log entry 17). [derived: 60_exceptions.md section
1, 60_exceptions.md section 3, 92_eei_decisions.md D15] -/
def Obligations.AnomalyCauseCodesOfALine : Prop :=
  (∀ (n : Nat) (len : Len) (k : Field5),
    (lineAnomalies ⟨n, len, .unknownOpcode k⟩).map anomalyCode = [1] ∧
    (lineAnomalies ⟨n, len, .unknownSpecial k⟩).map anomalyCode = [2]) ∧
  (∀ (n : Nat) (len : Len) (k : Field5) (m : BinMnemonic) (b a : Operand),
    (lineAnomalies ⟨n, len, .binary k m b a⟩).map anomalyCode = Expected.opCodes b ++ Expected.opCodes a) ∧
  ∀ (n : Nat) (len : Len) (k : Field5) (m : SpecMnemonic) (a : Operand),
    (lineAnomalies ⟨n, len, .special k m a⟩).map anomalyCode = Expected.opCodes a

/-- For each of these rows: a word with the row fixed bits decodes to the row instruction with its operand codes,
the table holds the row mnemonic, and for all operand codes and every state exec answers the next state in
which only the cursor and the output changed: one line with the cursor as address, Binary with the opcode, the
mnemonic, b decoded in position b and a in position a, both with the word after the cursor, and the cursor
advanced by 1, or by 2 if either operand consumes. The mnemonics are the spec own choice of names (D6, log
entry 5); the codes are normative. [derived: 40_opcode_tables.md section 2] -/
def Obligations.MoveAndArithmeticRowsEmitTheirLine : Prop :=
  Expected.BinaryRow 0x01#5 .set .set ∧
  Expected.BinaryRow 0x02#5 .add .add ∧
  Expected.BinaryRow 0x03#5 .sub .sub ∧
  Expected.BinaryRow 0x04#5 .mul .mul ∧
  Expected.BinaryRow 0x05#5 .mli .mli ∧
  Expected.BinaryRow 0x06#5 .div .div ∧
  Expected.BinaryRow 0x07#5 .dvi .dvi ∧
  Expected.BinaryRow 0x08#5 .mod .mod ∧
  Expected.BinaryRow 0x09#5 .mdi .mdi

/-- For each of these rows: a word with the row fixed bits decodes to the row instruction with its operand codes,
the table holds the row mnemonic, and for all operand codes and every state exec answers the next state in
which only the cursor and the output changed: one line with the cursor as address, Binary with the opcode, the
mnemonic, b decoded in position b and a in position a, both with the word after the cursor, and the cursor
advanced by 1, or by 2 if either operand consumes. The mnemonics are the spec own choice of names (D6, log
entry 5); the codes are normative. [derived: 40_opcode_tables.md section 2] -/
def Obligations.LogicAndShiftRowsEmitTheirLine : Prop :=
  Expected.BinaryRow 0x0A#5 .and .and ∧
  Expected.BinaryRow 0x0B#5 .bor .bor ∧
  Expected.BinaryRow 0x0C#5 .xor .xor ∧
  Expected.BinaryRow 0x0D#5 .shr .shr ∧
  Expected.BinaryRow 0x0E#5 .asr .asr ∧
  Expected.BinaryRow 0x0F#5 .shl .shl

/-- For each of these rows: a word with the row fixed bits decodes to the row instruction with its operand codes,
the table holds the row mnemonic, and for all operand codes and every state exec answers the next state in
which only the cursor and the output changed: one line with the cursor as address, Binary with the opcode, the
mnemonic, b decoded in position b and a in position a, both with the word after the cursor, and the cursor
advanced by 1, or by 2 if either operand consumes. The mnemonics are the spec own choice of names (D6, log
entry 5); the codes are normative. [derived: 40_opcode_tables.md section 2] -/
def Obligations.ConditionalRowsEmitTheirLine : Prop :=
  Expected.BinaryRow 0x10#5 .ifb .ifb ∧
  Expected.BinaryRow 0x11#5 .ifc .ifc ∧
  Expected.BinaryRow 0x12#5 .ife .ife ∧
  Expected.BinaryRow 0x13#5 .ifn .ifn ∧
  Expected.BinaryRow 0x14#5 .ifg .ifg ∧
  Expected.BinaryRow 0x15#5 .ifa .ifa ∧
  Expected.BinaryRow 0x16#5 .ifl .ifl ∧
  Expected.BinaryRow 0x17#5 .ifu .ifu

/-- For each of these rows: a word with the row fixed bits decodes to the row instruction with its operand codes,
the table holds the row mnemonic, and for all operand codes and every state exec answers the next state in
which only the cursor and the output changed: one line with the cursor as address, Binary with the opcode, the
mnemonic, b decoded in position b and a in position a, both with the word after the cursor, and the cursor
advanced by 1, or by 2 if either operand consumes. The mnemonics are the spec own choice of names (D6, log
entry 5); the codes are normative. [derived: 40_opcode_tables.md section 2] -/
def Obligations.ExtendedRowsEmitTheirLine : Prop :=
  Expected.BinaryRow 0x1A#5 .adx .adx ∧
  Expected.BinaryRow 0x1B#5 .sbx .sbx ∧
  Expected.BinaryRow 0x1E#5 .sti .sti ∧
  Expected.BinaryRow 0x1F#5 .std .std

/-- For each of these rows: a word with the row fixed bits decodes to the row instruction with its operand codes,
the table holds the row mnemonic, and for all operand codes and every state exec answers the next state in
which only the cursor and the output changed: one line with the cursor as address, Special with the selector,
the mnemonic and a decoded in position a with the word after the cursor, and the cursor advanced by 1, or by 2
if the operand consumes. The mnemonics are the spec own choice of names (D6, log entry 5); the codes are
normative. That the length tests operand a alone, so that HWN, HWQ and HWI are one word long unless a consumes
although their selectors lie in 0x0E..0x15, is the spec own decision D4, log entry 10. [derived:
40_opcode_tables.md section 3, 43_sequencer.md section 1, 92_eei_decisions.md D4, 92_eei_decisions.md D6] -/
def Obligations.SpecialRowsEmitTheirLine : Prop :=
  Expected.SpecialRow 0x01#5 .jsr .jsr ∧
  Expected.SpecialRow 0x08#5 .int .int ∧
  Expected.SpecialRow 0x09#5 .iag .iag ∧
  Expected.SpecialRow 0x0A#5 .ias .ias ∧
  Expected.SpecialRow 0x0B#5 .rfi .rfi ∧
  Expected.SpecialRow 0x0C#5 .iaq .iaq ∧
  Expected.SpecialRow 0x10#5 .hwn .hwn ∧
  Expected.SpecialRow 0x11#5 .hwq .hwq ∧
  Expected.SpecialRow 0x12#5 .hwi .hwi

/-- For opcodes 0x18, 0x19, 0x1C and 0x1D: a word with that opcode decodes to the reserved row, the binary table
has no entry, and for all operand codes and every state exec answers the next state in which only the cursor
and the output changed: one line UnknownOpcode of the opcode, the cursor advanced by 1, or by 2 if either
operand code consumes (D5, log entry 11). [derived: 42_instruction_decoder.md section 1, 92_eei_decisions.md
D5] -/
def Obligations.ReservedOpcodeRowsEmitTheirPlaceholder : Prop :=
  Expected.ReservedOpcodeRow 0x18#5 .reservedOp18 ∧
  Expected.ReservedOpcodeRow 0x19#5 .reservedOp19 ∧
  Expected.ReservedOpcodeRow 0x1C#5 .reservedOp1C ∧
  Expected.ReservedOpcodeRow 0x1D#5 .reservedOp1D

/-- For each of the 23 selectors: a word of the special form with that selector decodes to the reserved row, the
special table has no entry, and for every operand code and every state exec answers the next state in which
only the cursor and the output changed: one line UnknownSpecial of the selector, the cursor advanced by 1, or
by 2 if the operand code consumes. (That an unknown special opcode has the length of the field formula is
decision D5, log entry 11; that the length of the special form tests operand a alone, also where the selector
is itself a consuming value, such as 0x0E or 0x1F, is decision D4, log entry 10.) [derived:
42_instruction_decoder.md section 1, 43_sequencer.md section 1, 92_eei_decisions.md D4, 92_eei_decisions.md
D5] -/
def Obligations.ReservedSelectorRowsEmitTheirPlaceholder : Prop :=
  Expected.ReservedSelectorRow 0x00#5 .reservedSel00 ∧
  Expected.ReservedSelectorRow 0x02#5 .reservedSel02 ∧
  Expected.ReservedSelectorRow 0x03#5 .reservedSel03 ∧
  Expected.ReservedSelectorRow 0x04#5 .reservedSel04 ∧
  Expected.ReservedSelectorRow 0x05#5 .reservedSel05 ∧
  Expected.ReservedSelectorRow 0x06#5 .reservedSel06 ∧
  Expected.ReservedSelectorRow 0x07#5 .reservedSel07 ∧
  Expected.ReservedSelectorRow 0x0D#5 .reservedSel0D ∧
  Expected.ReservedSelectorRow 0x0E#5 .reservedSel0E ∧
  Expected.ReservedSelectorRow 0x0F#5 .reservedSel0F ∧
  Expected.ReservedSelectorRow 0x13#5 .reservedSel13 ∧
  Expected.ReservedSelectorRow 0x14#5 .reservedSel14 ∧
  Expected.ReservedSelectorRow 0x15#5 .reservedSel15 ∧
  Expected.ReservedSelectorRow 0x16#5 .reservedSel16 ∧
  Expected.ReservedSelectorRow 0x17#5 .reservedSel17 ∧
  Expected.ReservedSelectorRow 0x18#5 .reservedSel18 ∧
  Expected.ReservedSelectorRow 0x19#5 .reservedSel19 ∧
  Expected.ReservedSelectorRow 0x1A#5 .reservedSel1A ∧
  Expected.ReservedSelectorRow 0x1B#5 .reservedSel1B ∧
  Expected.ReservedSelectorRow 0x1C#5 .reservedSel1C ∧
  Expected.ReservedSelectorRow 0x1D#5 .reservedSel1D ∧
  Expected.ReservedSelectorRow 0x1E#5 .reservedSel1E ∧
  Expected.ReservedSelectorRow 0x1F#5 .reservedSel1F

/-- For every state with the cursor below n and every instruction i: if the word at the cursor decodes to i, then
i is well formed and the step is exec i at that state, with nothing added around it; and so if i is well
formed and the word at the cursor is its encoding. [derived: 43_sequencer.md section 2] -/
def Obligations.StepRunsTheDecodedInstruction : Prop :=
  (∀ (s : State) (i : Instr), s.cursor < s.words.n → decode (s.words.wordAt s.cursor) = i →
    WellFormed i ∧ step s = exec i s) ∧
  ∀ (s : State) (i : Instr), s.cursor < s.words.n → WellFormed i → s.words.wordAt s.cursor = encode i →
    step s = exec i s

/-- For every state, step answers a next state. If the cursor is below n, that state is the old one with one line
appended whose address is the cursor and whose decoded value and length are ID of the words at the cursor and
after it (0 past the end), and with the cursor advanced by that length, which is Len of the instruction word
(R121); otherwise nothing changes (R121 enables no step then; that step answers the same state is the model
reading of D19, log entry 4). [derived: 43_sequencer.md section 2, 60_exceptions.md section 6,
92_eei_decisions.md D19] -/
def Obligations.StepIsTheSequencerOverTheInstructionDecoder : Prop :=
  ∀ s : State, ∃ s' : State, step s = .next s' ∧
    (s.cursor < s.words.n → ∀ w t : Word, w = s.words.wordAt s.cursor →
      t = (if s.cursor + 1 < s.words.n then s.words.wordAt (s.cursor + 1) else 0x0000#16) →
      s' = { s with
              cursor := s.cursor + (idBlock w t).2.words
              out := s.out ++ [⟨s.cursor, (idBlock w t).2, (idBlock w t).1⟩] } ∧ (idBlock w t).2 = wordLen w) ∧
    (¬ s.cursor < s.words.n → s' = s)

/-- For every instruction, well formed or not, and every state: exec answers a next state, equal to the old one
but for one line appended whose address is the old cursor and the cursor advanced by that line own length; so
the word store reads the same at every index. [derived: 20_memory.md section 4, 60_exceptions.md section 1,
43_sequencer.md section 2] -/
def Obligations.EveryInstructionEmitsOneLineAndAdvances : Prop :=
  ∀ (i : Instr) (s : State), ∃ l : Line, l.addr = s.cursor ∧
    exec i s = .next { s with cursor := s.cursor + l.len.words, out := s.out ++ [l] }

/-- For every state with the cursor below n, whatever the instruction (calls, conditionals, a PC destination and
RFI included), the step answers a next state whose cursor is the old cursor plus Len of the instruction word.
[stated: R127] -/
def Obligations.OnlyControlTransferIsTheLength : Prop :=
  ∀ s : State, s.cursor < s.words.n →
    ∃ s' : State, step s = .next s' ∧ s'.cursor = s.cursor + (wordLen (s.words.wordAt s.cursor)).words

/-- From every state the step is neither a fault nor a refusal, and so is every instruction, well formed or not; a
step that is not at the end emits exactly one line, placeholder lines included, and moves the cursor one or
two words on. [stated: R128] -/
def Obligations.NoInputMakesTheBlockFailOrJump : Prop :=
  (∀ s : State, (∀ f, step s ≠ .fault f) ∧ ∀ r, step s ≠ .refused r) ∧
  (∀ (i : Instr) (s : State), (∀ f, exec i s ≠ .fault f) ∧ ∀ r, exec i s ≠ .refused r) ∧
  ∀ s : State, s.cursor < s.words.n → ∃ (s' : State) (l : Line), step s = .next s' ∧ s'.out = s.out ++ [l] ∧
    (s'.cursor = s.cursor + 1 ∨ s'.cursor = s.cursor + 2)

/-- From every state, every number of steps answers a next state (no fault, no refusal) whose word store and
length are those of the start, so every index reads as before. (That the store is not written is R34 and that
nothing faults is R128; that a step in the done state answers a next state, the same one, is the model reading
of D19, log entry 4.) [derived: 20_memory.md section 4, 60_exceptions.md section 1, 60_exceptions.md section
6, 92_eei_decisions.md D19] -/
def Obligations.NoRunWritesTheStore : Prop :=
  ∀ (k : Nat) (s : State), ∃ s' : State, runSteps k s = .next s' ∧
    s'.words = s.words ∧ ∀ j : Nat, s'.words.wordAt j = s.words.wordAt j

/-- After any number k of steps from any state, the output is the old output followed by at most k lines, exactly
k if the run is not done then; lines already emitted never change. (Steps past the end answer the same state,
the model reading of D19, log entry 4.) [derived: 10_state.md section 7, 43_sequencer.md section 2] -/
def Obligations.OutputOnlyGrowsOneLineAStep : Prop :=
  ∀ (k : Nat) (s s' : State), runSteps k s = .next s' →
    ∃ ls : List Line, s'.out = s.out ++ ls ∧ ls.length ≤ k ∧ (s'.cursor < s'.words.n → ls.length = k)

/-- If the cursor is at or past n, every number of steps answers that same state: cursor, output and store are
held. (That a step of the model in the done state answers the same state is the model reading of D19, log
entry 4.) [derived: 60_exceptions.md section 6, 92_eei_decisions.md D19] -/
def Obligations.DoneStateHolds : Prop :=
  ∀ (k : Nat) (s : State), s.words.n ≤ s.cursor → runSteps k s = .next s

/-- If the cursor is at the last index of the stream and the word there has length two, the step emits its line
with trailing word 0x0000 and length two, and the cursor becomes n + 1 (decision D11, log entry 12). [derived:
43_sequencer.md section 2, 92_eei_decisions.md D11] -/
def Obligations.TruncatedLastInstructionReadsZero : Prop :=
  ∀ s : State, s.cursor + 1 = s.words.n → wordLen (s.words.wordAt s.cursor) = .two →
    step s = .next { s with
      cursor := s.words.n + 1
      out := s.out ++ [⟨s.cursor, .two, idDecoded (s.words.wordAt s.cursor) 0x0000#16⟩] }

/-- Two states with the same cursor, both not done, with the same word at the cursor and, if that word has length
two, the same word after it, append the same line and reach the same cursor, whatever else they hold.
[derived: 20_memory.md section 4, 42_instruction_decoder.md section 1] -/
def Obligations.StepDependsOnTwoWordsOnly : Prop :=
  ∀ s₁ s₂ : State, s₁.cursor = s₂.cursor → s₁.cursor < s₁.words.n → s₂.cursor < s₂.words.n →
    s₁.words.wordAt s₁.cursor = s₂.words.wordAt s₂.cursor →
    (wordLen (s₁.words.wordAt s₁.cursor) = .two →
      s₁.words.wordAt (s₁.cursor + 1) = s₂.words.wordAt (s₂.cursor + 1)) →
    ∃ (l : Line) (c : Nat), step s₁ = .next { s₁ with cursor := c, out := s₁.out ++ [l] } ∧
      step s₂ = .next { s₂ with cursor := c, out := s₂.out ++ [l] }

/-- After the host loads a sequence of words, index k reads as the k-th word if k is below its length and as
0x0000 otherwise; in every store whatever, an index at or past n reads as 0x0000; and a step never reads an
instruction word past the end, since with the cursor at or past n it emits nothing. [stated: R33] -/
def Obligations.LoadedWordsReadBackAndZeroPastTheEnd : Prop :=
  (∀ (ws : List Word) (s : State) (k : Nat),
    (hostLoad ws s).words.n = ws.length ∧
    (hostLoad ws s).words.wordAt k = (if h : k < ws.length then ws[k] else 0x0000#16)) ∧
  (∀ (m : Memory) (k : Nat), m.n ≤ k → m.wordAt k = 0x0000#16) ∧
  (∀ (s s' : State), s.words.n ≤ s.cursor → step s = .next s' → s'.out = s.out)

/-- In a canonical store, after a word is put at index k, index k reads that word, every other index that held a
word reads as before, and the store is long enough for k. (Placing one word is the model own operation for
withFetchWord, log entry 2.) [derived: 20_memory.md section 4] -/
def Obligations.PlacedWordReadsBackAndOthersKeep : Prop :=
  ∀ (m : Memory) (k : Nat) (w : Word), m.wf = true →
    (m.put k w).wordAt k = w ∧ k < (m.put k w).n ∧ m.n ≤ (m.put k w).n ∧
    ∀ j : Nat, j ≠ k → (m.put k w).wordAt j = m.wordAt j

/-- If two stores are in canonical form, have the same n and read the same word at every index below n, they are
equal. (The canonical form is the model own representation of the store, log entry 3.) [derived: 10_state.md
section 6] -/
def Obligations.CanonicalStoresThatReadAlikeAreEqual : Prop :=
  ∀ m m' : Memory, m.wf = true → m'.wf = true → m.n = m'.n →
    (∀ k : Nat, k < m.n → m.wordAt k = m'.wordAt k) → m = m'

/-- For every state with the run invariant (the store is canonical; the lines lie end to end from index 0 to the
cursor; every line has an address below n and is what ID gives for the words at its address), if the step
answers a next state, that state has it too. [derived: 10_state.md section 7, 20_memory.md section 4,
43_sequencer.md section 5] -/
def Obligations.EveryStepKeepsTheRunInvariant : Prop :=
  ∀ s s' : State, RunInv s → step s = .next s' → RunInv s'

/-- State.reset has the run invariant, with cursor 0 and no output (its empty store is the model choice, log entry
1); from every state with a canonical store, a reset gives a state with the invariant, cursor 0 and no output
and the same store; and so does a load of any words followed by a reset, from any state. [derived: 10_state.md
section 8, 70_reset_and_hazards.md section 1] -/
def Obligations.ResetEstablishesTheRunInvariant : Prop :=
  RunInv State.reset ∧ State.reset.cursor = 0 ∧ State.reset.out = [] ∧
  (∀ s : State, s.words.wf = true → RunInv (hostReset s) ∧ (hostReset s).words = s.words ∧
    (hostReset s).cursor = 0 ∧ (hostReset s).out = []) ∧
  ∀ (ws : List Word) (s : State), RunInv (hostReset (hostLoad ws s))

/-- In every state with the run invariant the cursor is at most n + 1; and it is n + 1 only if the last line
emitted is at index n - 1 with length two. (n + 1 after a cut-off instruction is decision D11, log entry 12.)
[derived: 10_state.md section 3, 43_sequencer.md section 3] -/
def Obligations.CursorNeverPassesTheEndByMoreThanOne : Prop :=
  ∀ s : State, RunInv s → s.cursor ≤ s.words.n + 1 ∧
    (s.cursor = s.words.n + 1 → ∃ l : Line, s.out.getLast? = some l ∧ l.addr + 1 = s.words.n ∧ l.len = .two)

/-- In every state with the run invariant, for every line: addr + len exceeds n exactly when the line is at the
last index with length two, and then its decoded value is that of a trailing word 0x0000. [derived:
70_reset_and_hazards.md section 3] -/
def Obligations.CutOffLinesAreThoseReachingPastTheEnd : Prop :=
  ∀ s : State, RunInv s → ∀ l ∈ s.out,
    (s.words.n < l.addr + l.len.words ↔ l.addr + 1 = s.words.n ∧ l.len = .two) ∧
    (s.words.n < l.addr + l.len.words → l.dec = idDecoded (s.words.wordAt l.addr) 0x0000#16)

/-- For every state s, with whatever store, cursor and output: after a reset, n steps of the machine answer the
state with the same store whose cursor and output are Run of that store, and it is done; and the boot order
load, reset, run gives Run of the loaded words from any state, so an earlier run leaves nothing behind. (Steps
past the end answer the same state, the model reading of D19, log entry 4.) [derived: 43_sequencer.md section
4, 70_reset_and_hazards.md section 2] -/
def Obligations.RunOfTheMachineIsTheRunFunction : Prop :=
  (∀ s : State, runSteps s.words.n (hostReset s) =
      .next { words := s.words, cursor := (run s.words).1, out := (run s.words).2 } ∧
    s.words.n ≤ (run s.words).1) ∧
  ∀ (ws : List Word) (s : State), hostSession ws s = .next
    { words := Memory.ofWords ws, cursor := (run (Memory.ofWords ws)).1, out := (run (Memory.ofWords ws)).2 }

/-- From every state, n - cursor steps (0 if the cursor is past n) answer a done state; if the cursor was at most
n, the final cursor is n or n + 1. (n + 1 is decision D11, log entry 12; steps past the end answer the same
state, the model reading of D19, log entry 4.) [derived: 43_sequencer.md section 3] -/
def Obligations.EveryRunEndsWithinItsRemainingWords : Prop :=
  ∀ s : State, ∃ s' : State, runSteps (s.words.n - s.cursor) s = .next s' ∧
    s.words.n ≤ s'.cursor ∧ (s.cursor ≤ s.words.n → s'.cursor = s.words.n ∨ s'.cursor = s.words.n + 1)

/-- For every store: the k-th line of Run stands at the k-th boundary, the boundary after the last line is the
final cursor and is at or past n, every boundary a line stands at is below n, addresses strictly rise, the
lengths sum to the final cursor, and the index after a two-word line is the address of no line. [derived:
43_sequencer.md section 4] -/
def Obligations.LinesAreTheInstructionBoundaries : Prop :=
  ∀ m : Memory,
    (∀ k l, (run m).2[k]? = some l → l.addr = boundary m k ∧ boundary m k < m.n) ∧
    boundary m (run m).2.length = (run m).1 ∧ m.n ≤ (run m).1 ∧
    (run m).2.Pairwise (fun l l' => l.addr < l'.addr) ∧
    ((run m).2.map fun l => l.len.words).sum = (run m).1 ∧
    (∀ l ∈ (run m).2, l.len = .two → ∀ l' ∈ (run m).2, l'.addr ≠ l.addr + 1)

/-- For every list of well-formed instructions with a trailing word each: load the words of the instructions one
after another (the trailing word only where an operand consumes it), reset and run. The run ends with the
cursor exactly at the end and one line per instruction, in order, whose decoded value and length are those of
its instruction word with its trailing word. [derived: 43_sequencer.md section 4, 42_instruction_decoder.md
section 1] -/
def Obligations.EncodedStreamDecodesToItsInstructions : Prop :=
  ∀ ps : List (Instr × Word), (∀ p ∈ ps, WellFormed p.1) →
    let m := Memory.ofWords (ps.flatMap fun p => encodeWords p.1 p.2)
    (run m).1 = m.n ∧
    ((run m).2.map fun l => (l.dec, l.len)) = ps.map fun p => idBlock (encode p.1) p.2

/-- For every width W with n + 1 < 2^W, in every state with the run invariant that is not done: the step answers a
next state whose cursor, held in W bits, is the old W-bit cursor plus the line length, and reads back as the
cursor itself. (The width is the OPEN parameter CURSOR_W, log entry 9.) [derived: 10_state.md section 3,
92_eei_decisions.md D10] -/
def Obligations.CursorRegisterOfSufficientWidthNeverWraps : Prop :=
  ∀ (W : Nat) (s : State), RunInv s → s.cursor < s.words.n → CursorWidthFits W s.words.n →
    ∃ s' : State, step s = .next s' ∧
      cursorPort W s'.cursor =
        cursorPort W s.cursor + BitVec.ofNat W (wordLen (s.words.wordAt s.cursor)).words ∧
      (cursorPort W s'.cursor).toNat = s'.cursor

/-- For all spellings and number formats: a binary line is the mnemonic, a space, operand b, a comma and a space,
operand a; a special line the mnemonic, a space, operand a; an unknown outcome the placeholder alone. [stated:
R52] -/
def Obligations.LinesAreWrittenInTheCanonicalFormat : Prop :=
  (∀ (cfg : TextConfig) (op : Field5) (m : BinMnemonic) (b a : Operand),
    render cfg (.binary op m b a) =
      cfg.binName m ++ " " ++ renderOperand cfg b ++ ", " ++ renderOperand cfg a) ∧
  (∀ (cfg : TextConfig) (sel : Field5) (m : SpecMnemonic) (a : Operand),
    render cfg (.special sel m a) = cfg.specName m ++ " " ++ renderOperand cfg a) ∧
  (∀ (cfg : TextConfig) (k : Field5), render cfg (.unknownOpcode k) = cfg.unknownOpcode ∧
    render cfg (.unknownSpecial k) = cfg.unknownSpecial)

/-- With the default spellings and formats (D6, D7, D8, D23: log entries 5 to 8) four worked examples of the spec
have the texts it gives them: 0x57BA 0xFFFF, 0x8012 and 0x8440 of the small programs, and 0x6A40 0x0002 of
R92. [derived: 95_test_vectors.md section 3, 40_opcode_tables.md section 3, 92_eei_decisions.md D6,
92_eei_decisions.md D7, 92_eei_decisions.md D8, 92_eei_decisions.md D23] -/
def Obligations.DefaultTextsOfWorkedExamples : Prop :=
  render defaultText (idDecoded 0x57BA 0xFFFF) = "ADX EX, [J + 0xFFFF]" ∧
  render defaultText (idDecoded 0x6A40 0x0002) = "HWI PICK 0x0002" ∧
  render defaultText (idDecoded 0x8012 0x0000) = "IFE A, -1" ∧
  render defaultText (idDecoded 0x8440 0x0000) = "unknown special opcode"

/-- The default format of a trailing word has six characters, and two words with the same text are equal, so a
printed trailing word can be read back. (The format is the spec default D8, log entry 7.) [derived:
92_eei_decisions.md D8, 30_encoding.md section 6] -/
def Obligations.DefaultWordFormatIsSixCharactersAndInjective : Prop :=
  (∀ t : Word, (fmtWordHex t).length = 6) ∧ ∀ t t' : Word, fmtWordHex t = fmtWordHex t' → t = t'

/-- From every state with a canonical store and for every 16-bit word: after the word is placed as withFetchWord
places it, the table decoder gives the decoded instruction, the step is exec of that instruction at that state
and answers a next state, its trailing word is 0x0000, and every index but the two at and after the cursor
reads as before. (withFetchWord stands for the host load, log entry 2. The numbering of an instruction by
which decodeTableWord reads it and withFetchWord places it, with a second word of zeros, is the model choice,
log entry 22.) [derived: 60_exceptions.md section 7, 70_reset_and_hazards.md section 2] -/
def Obligations.PlacedInstructionIsTheNextStep : Prop :=
  ∀ (s : State) (w : Word), s.words.wf = true →
    decodeTableWord 16 w.toNat = some (decode w) ∧
    step (s.withFetchWord 16 w.toNat) = exec (decode w) (s.withFetchWord 16 w.toNat) ∧
    (∃ s', step (s.withFetchWord 16 w.toNat) = .next s' ∧
      s'.out = s.out ++ [⟨s.cursor, wordLen w, idDecoded w 0x0000#16⟩]) ∧
    ∀ j : Nat, j ≠ s.cursor → j ≠ s.cursor + 1 → (s.withFetchWord 16 w.toNat).words.wordAt j = s.words.wordAt j

/-- A token that does not parse, at any place in the source, leaves no word, and the tokens before and after it
give the words they would without it; the tokens 8401 and 7C01, read most significant digit first (general
knowledge and the spec own decision D13, log entry 25), give those words; the exit status is 1 for a source
that does not open and for a source without a word, and 0 otherwise (status 1 for a source that does not open
is decision D12, log entry 19). [derived: 60_exceptions.md section 7, 20_memory.md section 2,
92_eei_decisions.md D12, 92_eei_decisions.md D13] -/
def Obligations.WordSourceDropsBadTokensAndEmptyInputFails : Prop :=
  (∀ ts us : List Token, wordSource (ts ++ .bad :: us) = wordSource (ts ++ us)) ∧
  wordSource [.hex [8, 4, 0, 1], .bad, .hex [7, 12, 0, 1]] = some [0x8401#16, 0x7C01#16] ∧
  exitStatus none = 1 ∧ ∀ n : Nat, (exitStatus (some n) = 1 ↔ n = 0) ∧ (exitStatus (some n) = 0 ↔ n ≠ 0)

/-- Loading the empty sequence and resetting gives a done state from any state, and any number of steps from it
answers that state with an empty output (no step is taken and the output is empty: R124, D12, the failure
status being the host own; that a call of step in the done state answers the same state is the model reading
of D19, log entry 4). [derived: 43_sequencer.md section 3, 60_exceptions.md section 6, 92_eei_decisions.md
D12, 92_eei_decisions.md D19] -/
def Obligations.EmptyStoreIsDoneAtOnce : Prop :=
  ∀ (k : Nat) (s : State), done (hostReset (hostLoad [] s)) = true ∧
    runSteps k (hostReset (hostLoad [] s)) = .next (hostReset (hostLoad [] s)) ∧
    (hostReset (hostLoad [] s)).out = []

/-- Two words of the same form with the same operand codes that count for that form (b and a for binary, a for
special) have the same length, whatever their opcodes or selectors; and a step that is not at the end emits
one line at the cursor and leaves the cursor at that line address plus its length. (That the selector of a
special word does not count is decision D4, log entry 10; that unknown instructions have the length of the
field formula is decision D5, log entry 11.) [derived: 43_sequencer.md section 1, 60_exceptions.md section 1,
92_eei_decisions.md D4, 92_eei_decisions.md D5] -/
def Obligations.LengthIsOfTheFormAndOperandCodesAlone : Prop :=
  (∀ w w' : Word, fxOp w ≠ 0 → fxOp w' ≠ 0 → fxB w = fxB w' → fxA w = fxA w' → wordLen w = wordLen w') ∧
  (∀ w w' : Word, fxOp w = 0 → fxOp w' = 0 → fxA w = fxA w' → wordLen w = wordLen w') ∧
  (∀ s s' : State, s.cursor < s.words.n → step s = .next s' →
    ∃ l : Line, s'.out = s.out ++ [l] ∧ l.addr = s.cursor ∧ s'.cursor = l.addr + l.len.words)

/-- For every two stores of the same length that read alike at every index but k, where the two words at k have
the same form and the same operand codes that count for it (so that one may be recognized and the other not):
every boundary is the same, the runs end at the same cursor with the same number of lines, each line has the
same address and length in both, and every line that neither starts at k nor takes the word at k as its
trailing word, and so every later line, is the same. (That the selector of a special word does not count is
decision D4, log entry 10; that unknown instructions have the length of the field formula is decision D5, log
entry 11.) [derived: 60_exceptions.md section 1, 60_exceptions.md section 4, 43_sequencer.md section 1,
92_eei_decisions.md D4, 92_eei_decisions.md D5] -/
def Obligations.AnomalyLeavesBoundariesAndOtherLines : Prop :=
  ∀ (m m' : Memory) (k : Nat), m.n = m'.n → (∀ j : Nat, j ≠ k → m.wordAt j = m'.wordAt j) →
    Expected.SameFormAndCodes (m.wordAt k) (m'.wordAt k) →
    (∀ j : Nat, boundary m j = boundary m' j) ∧
    (run m).1 = (run m').1 ∧ (run m).2.length = (run m').2.length ∧
    ∀ (j : Nat) (l : Line), (run m).2[j]? = some l →
      (∃ l' : Line, (run m').2[j]? = some l' ∧ l'.addr = l.addr ∧ l'.len = l.len) ∧
      (l.addr ≠ k → ¬ (l.addr + 1 = k ∧ l.len = .two) → (run m').2[j]? = some l)
end

