-- ==== Sys2Proof/Laws/Decode.lean ====
section
/-! SUPPORT. The field extractor on a packed word, and the fixed bits of a packed word. -/

namespace Sys2Proof.Laws

open Sys2Proof

@[simp] theorem fxOp_packFields (op bf : Field5) (af : OperandCode) : fxOp (packFields op bf af) = op := by
  ext i hi
  simp only [fxOp, packFields, BitVec.getElem_extractLsb', BitVec.getLsbD_or, BitVec.getLsbD_shiftLeft,
    BitVec.getLsbD_setWidth]
  interval_cases i <;> simp

@[simp] theorem fxB_packFields (op bf : Field5) (af : OperandCode) : fxB (packFields op bf af) = bf := by
  ext i hi
  simp only [fxB, packFields, BitVec.getElem_extractLsb', BitVec.getLsbD_or, BitVec.getLsbD_shiftLeft,
    BitVec.getLsbD_setWidth]
  interval_cases i <;> simp

@[simp] theorem fxA_packFields (op bf : Field5) (af : OperandCode) : fxA (packFields op bf af) = af := by
  ext i hi
  simp only [fxA, packFields, BitVec.getElem_extractLsb', BitVec.getLsbD_or, BitVec.getLsbD_shiftLeft,
    BitVec.getLsbD_setWidth]
  interval_cases i <;> simp

/-- Zero-extending the low five bits of a code below 0x20 gives the code back. -/
theorem zext6_setWidth {b : OperandCode} (h : bCodeOk b = true) : zext6 (b.setWidth 5) = b := by
  revert b
  decide

theorem packFields_op_masked (op bf : Field5) (af : OperandCode) :
    packFields op bf af &&& 0x001F = op.setWidth 16 := by
  ext i hi
  simp only [packFields, BitVec.getElem_and, BitVec.getElem_or, BitVec.getElem_shiftLeft, BitVec.getElem_setWidth]
  interval_cases i <;> simp

theorem packFields_sel_masked (op sel : Field5) (af : OperandCode) :
    packFields op sel af &&& 0x03FF = (sel.setWidth 16 <<< 5) ||| op.setWidth 16 := by
  ext i hi
  simp only [packFields, BitVec.getElem_and, BitVec.getElem_or, BitVec.getElem_shiftLeft, BitVec.getElem_setWidth]
  interval_cases i <;> simp

/-- A binary row's fixed bits are its opcode. -/
theorem packBinary_masked (op : Field5) (b a : OperandCode) : packBinary op b a &&& 0x001F = op.setWidth 16 :=
  packFields_op_masked op _ a

/-- A special row's fixed bits are opcode 0 and its selector. -/
theorem packSpecial_masked (sel : Field5) (a : OperandCode) :
    packSpecial sel a &&& 0x03FF = (sel.setWidth 16 <<< 5) ||| (0 : Field5).setWidth 16 :=
  packFields_sel_masked 0 sel a

end Sys2Proof.Laws
end

