-- ==== Sys2Proof/Laws/Host.lean ====
section
/-! SUPPORT. The host's `Core.run` on this machine is `runSteps`, in which the statements are written. -/

namespace Sys2Proof.Machine

@[simp] theorem runSteps_zero (s : State) : runSteps 0 s = .next s := rfl

theorem runSteps_succ {k : Nat} {s s' : State} (h : step s = .next s') : runSteps (k + 1) s = runSteps k s' := by
  simp [runSteps, h]

theorem core_run_succ (M : Host.Core) (k : Nat) (s : M.State) :
    M.run (k + 1) s =
      match M.step s with
      | .next s' => M.run k s'
      | .fault r => .fault r
      | .refused r => .refused r := rfl

theorem core_run_eq_runSteps (k : Nat) (s : State) : Host.Core.run Sys2Proof.core k s = runSteps k s := by
  induction k generalizing s with
  | zero => rfl
  | succ k ih =>
    refine (core_run_succ Sys2Proof.core k s).trans ?_
    have h : Sys2Proof.core.step s = step s := rfl
    simp only [runSteps, h]
    cases step s with
    | next s' => exact ih s'
    | fault r => rfl
    | refused r => rfl

end Sys2Proof.Machine
end

