-- ==== Sys2Proof/Laws/State.lean ====
section
/-! SUPPORT. One lemma per field per update of the state. -/

namespace Sys2Proof.Machine

@[simp] theorem emit_words (l : Line) (s : State) : (emit l s).words = s.words := rfl
@[simp] theorem emit_cursor (l : Line) (s : State) : (emit l s).cursor = s.cursor := rfl
@[simp] theorem emit_out (l : Line) (s : State) : (emit l s).out = s.out ++ [l] := rfl

@[simp] theorem setCursor_words (v : Nat) (s : State) : (setCursor v s).words = s.words := rfl
@[simp] theorem setCursor_cursor (v : Nat) (s : State) : (setCursor v s).cursor = v := rfl
@[simp] theorem setCursor_out (v : Nat) (s : State) : (setCursor v s).out = s.out := rfl

@[simp] theorem emitLine_words (d : Decoded) (l : Len) (s : State) : (emitLine d l s).words = s.words := rfl
@[simp] theorem emitLine_cursor (d : Decoded) (l : Len) (s : State) :
    (emitLine d l s).cursor = s.cursor + l.words := rfl
@[simp] theorem emitLine_out (d : Decoded) (l : Len) (s : State) :
    (emitLine d l s).out = s.out ++ [{ addr := s.cursor, len := l, dec := d }] := rfl

@[simp] theorem hostLoad_words (ws : List Word) (s : State) : (hostLoad ws s).words = Memory.ofWords ws := rfl
@[simp] theorem hostLoad_cursor (ws : List Word) (s : State) : (hostLoad ws s).cursor = s.cursor := rfl
@[simp] theorem hostLoad_out (ws : List Word) (s : State) : (hostLoad ws s).out = s.out := rfl

@[simp] theorem hostReset_words (s : State) : (hostReset s).words = s.words := rfl
@[simp] theorem hostReset_cursor (s : State) : (hostReset s).cursor = 0 := rfl
@[simp] theorem hostReset_out (s : State) : (hostReset s).out = [] := rfl

@[simp] theorem put_n (m : Memory) (k : Nat) (w : Word) : (m.put k w).n = max m.n (k + 1) := rfl
@[simp] theorem put_cells (m : Memory) (k : Nat) (w : Word) : (m.put k w).cells = putCell m.cells k w := rfl
@[simp] theorem ofWords_n (ws : List Word) : (Memory.ofWords ws).n = ws.length := rfl
@[simp] theorem ofWords_cells (ws : List Word) : (Memory.ofWords ws).cells = cellsFrom 0 ws := rfl

@[simp] theorem withFetchWord_cursor (s : State) (nbits w : Nat) : (s.withFetchWord nbits w).cursor = s.cursor := rfl
@[simp] theorem withFetchWord_out (s : State) (nbits w : Nat) : (s.withFetchWord nbits w).out = s.out := rfl

theorem Len.words_pos (l : Len) : 1 ≤ l.words := by cases l <;> decide
theorem Len.words_le (l : Len) : l.words ≤ 2 := by cases l <;> decide

end Sys2Proof.Machine
end

