-- ==== Sys2Proof/Laws/Memory.lean ====
section
/-! SUPPORT. Every operation over the word store keeps its canonical form. -/

namespace Sys2Proof.Machine

/-- What canonical form says of a nonempty list. -/
theorem cellsWf_cons {lo hi i : Nat} {w : Word} {cs : List WordCell} :
    cellsWf lo hi ((i, w) :: cs) = true ↔
      lo ≤ i ∧ i < hi ∧ w ≠ unlistedWord ∧ cellsWf (i + 1) hi cs = true := by
  simp [cellsWf, and_assoc]

theorem cellsWf_weaken {cs : List WordCell} {lo lo' hi hi' : Nat} (hlo : lo' ≤ lo) (hhi : hi ≤ hi')
    (h : cellsWf lo hi cs = true) : cellsWf lo' hi' cs = true := by
  induction cs generalizing lo lo' with
  | nil => rfl
  | cons c cs ih =>
    obtain ⟨i, w⟩ := c
    rw [cellsWf_cons] at h ⊢
    exact ⟨hlo.trans h.1, h.2.1.trans_le hhi, h.2.2.1, ih le_rfl h.2.2.2⟩

theorem putCell_wf {cs : List WordCell} {lo hi k : Nat} {w : Word} (hlo : lo ≤ k) (hk : k < hi)
    (h : cellsWf lo hi cs = true) : cellsWf lo hi (putCell cs k w) = true := by
  induction cs generalizing lo with
  | nil =>
    unfold putCell
    split
    · rfl
    · exact cellsWf_cons.2 ⟨hlo, hk, ‹_›, rfl⟩
  | cons c cs ih =>
    obtain ⟨i, v⟩ := c
    obtain ⟨h1, h2, h3, h4⟩ := cellsWf_cons.1 h
    unfold putCell
    split_ifs with hki hw heq hw'
    · exact h
    · exact cellsWf_cons.2 ⟨hlo, hk, hw, cellsWf_cons.2 ⟨hki, h2, h3, h4⟩⟩
    · exact cellsWf_weaken (h1.trans (Nat.le_succ i)) le_rfl h4
    · exact cellsWf_cons.2 ⟨hlo, hk, hw', heq ▸ h4⟩
    · exact cellsWf_cons.2 ⟨h1, h2, h3, ih (by omega) h4⟩

/-- The host's placing of a word keeps the canonical form. -/
theorem put_wf {m : Memory} (k : Nat) (w : Word) (h : m.wf = true) : (m.put k w).wf = true :=
  putCell_wf (Nat.zero_le k) (by simp) (cellsWf_weaken le_rfl (le_max_left _ _) h)

theorem cellsFrom_wf (ws : List Word) (i hi : Nat) (h : i + ws.length ≤ hi) :
    cellsWf i hi (cellsFrom i ws) = true := by
  induction ws generalizing i with
  | nil => rfl
  | cons w ws ih =>
    have h' : i + 1 + ws.length ≤ hi := by simpa [Nat.add_assoc, Nat.add_comm 1] using h
    unfold cellsFrom
    split
    · exact cellsWf_weaken (Nat.le_succ i) le_rfl (ih _ h')
    · exact cellsWf_cons.2 ⟨le_rfl, by omega, ‹_›, ih _ h'⟩

/-- The host's load makes a canonical store. -/
theorem ofWords_wf (ws : List Word) : (Memory.ofWords ws).wf = true :=
  cellsFrom_wf ws 0 _ (by simp)

theorem hostLoad_wf (ws : List Word) (s : State) : (hostLoad ws s).words.wf = true := ofWords_wf ws

theorem withFetchWord_wf (s : State) (nbits w : Nat) (h : s.words.wf = true) :
    (s.withFetchWord nbits w).words.wf = true :=
  put_wf _ _ (put_wf _ _ h)

theorem reset_words_wf : State.reset.words.wf = true := rfl

end Sys2Proof.Machine
end

