-- ==== Sys2Proof/Laws/Ops.lean ====
section
/-! SUPPORT. What each shared operation can do, said once: provers cite these and do not unfold it. -/

namespace Sys2Proof.Machine

/-- Everything `emitBinary` can do: one next state, the store kept, one line, the cursor advanced. -/
theorem emitBinary_next {op : Field5} {m : BinMnemonic} {b a : OperandCode} {s s' : State}
    (h : emitBinary op m b a s = .next s') :
    s'.words = s.words ∧ s'.cursor = s.cursor + (lenBinary b a).words ∧
      s'.out = s.out ++ [⟨s.cursor, lenBinary b a,
        .binary op m (operandDesc b (trailingWord s) .b) (operandDesc a (trailingWord s) .a)⟩] := by
  cases h
  exact ⟨rfl, rfl, rfl⟩

/-- Everything `emitSpecial` can do. -/
theorem emitSpecial_next {sel : Field5} {m : SpecMnemonic} {a : OperandCode} {s s' : State}
    (h : emitSpecial sel m a s = .next s') :
    s'.words = s.words ∧ s'.cursor = s.cursor + (lenSpecial a).words ∧
      s'.out = s.out ++ [⟨s.cursor, lenSpecial a, .special sel m (operandDesc a (trailingWord s) .a)⟩] := by
  cases h
  exact ⟨rfl, rfl, rfl⟩

/-- Everything `emitUnknownOpcode` can do. -/
theorem emitUnknownOpcode_next {op : Field5} {b a : OperandCode} {s s' : State}
    (h : emitUnknownOpcode op b a s = .next s') :
    s'.words = s.words ∧ s'.cursor = s.cursor + (lenBinary b a).words ∧
      s'.out = s.out ++ [⟨s.cursor, lenBinary b a, .unknownOpcode op⟩] := by
  cases h
  exact ⟨rfl, rfl, rfl⟩

/-- Everything `emitUnknownSpecial` can do. -/
theorem emitUnknownSpecial_next {sel : Field5} {a : OperandCode} {s s' : State}
    (h : emitUnknownSpecial sel a s = .next s') :
    s'.words = s.words ∧ s'.cursor = s.cursor + (lenSpecial a).words ∧
      s'.out = s.out ++ [⟨s.cursor, lenSpecial a, .unknownSpecial sel⟩] := by
  cases h
  exact ⟨rfl, rfl, rfl⟩

theorem done_iff {s : State} : done s = true ↔ s.words.n ≤ s.cursor := by simp [done]

theorem not_done_iff {s : State} : done s = false ↔ s.cursor < s.words.n := by simp [done]

theorem wordAt_lt {m : Memory} {k : Nat} (h : k < m.n) : m.wordAt k = lookupCell m.cells k := by
  simp [Memory.wordAt, h]

/-- Both outputs of the operand decoder. -/
@[simp] theorem od_fst (code : OperandCode) (t : Word) (pos : Pos) : (od code t pos).1 = operandDesc code t pos := rfl
@[simp] theorem od_snd (code : OperandCode) (t : Word) (pos : Pos) : (od code t pos).2 = consumes code := rfl

@[simp] theorem regIdx_val {k : Nat} (h : k < 8) : (regIdx k).val = k := Nat.mod_eq_of_lt h

@[simp] theorem inlineLit_val (code : OperandCode) (h : 0x1F < code.toNat) :
    (inlineLit code h).val = (code.toNat : Int) - 0x21 := rfl

/-- Codes 0x20..0x3F in position a: the inline literal, for every trailing word. -/
theorem operandDesc_literal_a {code : OperandCode} (t : Word) (h : 0x1F < code.toNat) :
    operandDesc code t .a = .litInline (inlineLit code h) := by
  unfold operandDesc
  simp only [dif_neg (Nat.not_le_of_lt h)]
  repeat rw [if_neg (by omega)]

/-- Codes 0x20..0x3F in position b: no literal, an unknown operand. -/
theorem operandDesc_literal_b {code : OperandCode} (t : Word) (h : 0x1F < code.toNat) :
    operandDesc code t .b = .unknown code .literalInB := by
  unfold operandDesc
  simp only [dif_neg (Nat.not_le_of_lt h)]
  repeat rw [if_neg (by omega)]

end Sys2Proof.Machine
end

