-- ==== Sys2Proof/Laws/PerInstr.lean ====
section
/-! SUPPORT. A family of facts stated once and proved per constructor: the word an instruction is encoded
as has its row's fixed bits (spec/opcode_table.json, columns match and mask). -/

namespace Sys2Proof.Laws.RowBits

/-- The row's mask and match value, copied from spec/opcode_table.json. -/
def row : Instr → Word × Word
  | .set _ _ => (0x001F, 0x0001)
  | .add _ _ => (0x001F, 0x0002)
  | .sub _ _ => (0x001F, 0x0003)
  | .mul _ _ => (0x001F, 0x0004)
  | .mli _ _ => (0x001F, 0x0005)
  | .div _ _ => (0x001F, 0x0006)
  | .dvi _ _ => (0x001F, 0x0007)
  | .mod _ _ => (0x001F, 0x0008)
  | .mdi _ _ => (0x001F, 0x0009)
  | .and _ _ => (0x001F, 0x000A)
  | .bor _ _ => (0x001F, 0x000B)
  | .xor _ _ => (0x001F, 0x000C)
  | .shr _ _ => (0x001F, 0x000D)
  | .asr _ _ => (0x001F, 0x000E)
  | .shl _ _ => (0x001F, 0x000F)
  | .ifb _ _ => (0x001F, 0x0010)
  | .ifc _ _ => (0x001F, 0x0011)
  | .ife _ _ => (0x001F, 0x0012)
  | .ifn _ _ => (0x001F, 0x0013)
  | .ifg _ _ => (0x001F, 0x0014)
  | .ifa _ _ => (0x001F, 0x0015)
  | .ifl _ _ => (0x001F, 0x0016)
  | .ifu _ _ => (0x001F, 0x0017)
  | .adx _ _ => (0x001F, 0x001A)
  | .sbx _ _ => (0x001F, 0x001B)
  | .sti _ _ => (0x001F, 0x001E)
  | .std _ _ => (0x001F, 0x001F)
  | .jsr _ => (0x03FF, 0x0020)
  | .int _ => (0x03FF, 0x0100)
  | .iag _ => (0x03FF, 0x0120)
  | .ias _ => (0x03FF, 0x0140)
  | .rfi _ => (0x03FF, 0x0160)
  | .iaq _ => (0x03FF, 0x0180)
  | .hwn _ => (0x03FF, 0x0200)
  | .hwq _ => (0x03FF, 0x0220)
  | .hwi _ => (0x03FF, 0x0240)
  | .reservedOp18 _ _ => (0x001F, 0x0018)
  | .reservedOp19 _ _ => (0x001F, 0x0019)
  | .reservedOp1C _ _ => (0x001F, 0x001C)
  | .reservedOp1D _ _ => (0x001F, 0x001D)
  | .reservedSel00 _ => (0x03FF, 0x0000)
  | .reservedSel02 _ => (0x03FF, 0x0040)
  | .reservedSel03 _ => (0x03FF, 0x0060)
  | .reservedSel04 _ => (0x03FF, 0x0080)
  | .reservedSel05 _ => (0x03FF, 0x00A0)
  | .reservedSel06 _ => (0x03FF, 0x00C0)
  | .reservedSel07 _ => (0x03FF, 0x00E0)
  | .reservedSel0D _ => (0x03FF, 0x01A0)
  | .reservedSel0E _ => (0x03FF, 0x01C0)
  | .reservedSel0F _ => (0x03FF, 0x01E0)
  | .reservedSel13 _ => (0x03FF, 0x0260)
  | .reservedSel14 _ => (0x03FF, 0x0280)
  | .reservedSel15 _ => (0x03FF, 0x02A0)
  | .reservedSel16 _ => (0x03FF, 0x02C0)
  | .reservedSel17 _ => (0x03FF, 0x02E0)
  | .reservedSel18 _ => (0x03FF, 0x0300)
  | .reservedSel19 _ => (0x03FF, 0x0320)
  | .reservedSel1A _ => (0x03FF, 0x0340)
  | .reservedSel1B _ => (0x03FF, 0x0360)
  | .reservedSel1C _ => (0x03FF, 0x0380)
  | .reservedSel1D _ => (0x03FF, 0x03A0)
  | .reservedSel1E _ => (0x03FF, 0x03C0)
  | .reservedSel1F _ => (0x03FF, 0x03E0)

/-- The encoded word, under the row's mask, is the row's match value. -/
def Statement (i : Instr) : Prop := encode i &&& (row i).1 = (row i).2

end Sys2Proof.Laws.RowBits

theorem Sys2Proof.Laws.RowBits.set (b a : Sys2Proof.OperandCode) :
    Sys2Proof.Laws.RowBits.Statement (.set b a) :=
  Sys2Proof.Laws.packBinary_masked _ b a
theorem Sys2Proof.Laws.RowBits.add (b a : Sys2Proof.OperandCode) :
    Sys2Proof.Laws.RowBits.Statement (.add b a) :=
  Sys2Proof.Laws.packBinary_masked _ b a
theorem Sys2Proof.Laws.RowBits.sub (b a : Sys2Proof.OperandCode) :
    Sys2Proof.Laws.RowBits.Statement (.sub b a) :=
  Sys2Proof.Laws.packBinary_masked _ b a
theorem Sys2Proof.Laws.RowBits.mul (b a : Sys2Proof.OperandCode) :
    Sys2Proof.Laws.RowBits.Statement (.mul b a) :=
  Sys2Proof.Laws.packBinary_masked _ b a
theorem Sys2Proof.Laws.RowBits.mli (b a : Sys2Proof.OperandCode) :
    Sys2Proof.Laws.RowBits.Statement (.mli b a) :=
  Sys2Proof.Laws.packBinary_masked _ b a
theorem Sys2Proof.Laws.RowBits.div (b a : Sys2Proof.OperandCode) :
    Sys2Proof.Laws.RowBits.Statement (.div b a) :=
  Sys2Proof.Laws.packBinary_masked _ b a
theorem Sys2Proof.Laws.RowBits.dvi (b a : Sys2Proof.OperandCode) :
    Sys2Proof.Laws.RowBits.Statement (.dvi b a) :=
  Sys2Proof.Laws.packBinary_masked _ b a
theorem Sys2Proof.Laws.RowBits.mod (b a : Sys2Proof.OperandCode) :
    Sys2Proof.Laws.RowBits.Statement (.mod b a) :=
  Sys2Proof.Laws.packBinary_masked _ b a
theorem Sys2Proof.Laws.RowBits.mdi (b a : Sys2Proof.OperandCode) :
    Sys2Proof.Laws.RowBits.Statement (.mdi b a) :=
  Sys2Proof.Laws.packBinary_masked _ b a
theorem Sys2Proof.Laws.RowBits.and (b a : Sys2Proof.OperandCode) :
    Sys2Proof.Laws.RowBits.Statement (.and b a) :=
  Sys2Proof.Laws.packBinary_masked _ b a
theorem Sys2Proof.Laws.RowBits.bor (b a : Sys2Proof.OperandCode) :
    Sys2Proof.Laws.RowBits.Statement (.bor b a) :=
  Sys2Proof.Laws.packBinary_masked _ b a
theorem Sys2Proof.Laws.RowBits.xor (b a : Sys2Proof.OperandCode) :
    Sys2Proof.Laws.RowBits.Statement (.xor b a) :=
  Sys2Proof.Laws.packBinary_masked _ b a
theorem Sys2Proof.Laws.RowBits.shr (b a : Sys2Proof.OperandCode) :
    Sys2Proof.Laws.RowBits.Statement (.shr b a) :=
  Sys2Proof.Laws.packBinary_masked _ b a
theorem Sys2Proof.Laws.RowBits.asr (b a : Sys2Proof.OperandCode) :
    Sys2Proof.Laws.RowBits.Statement (.asr b a) :=
  Sys2Proof.Laws.packBinary_masked _ b a
theorem Sys2Proof.Laws.RowBits.shl (b a : Sys2Proof.OperandCode) :
    Sys2Proof.Laws.RowBits.Statement (.shl b a) :=
  Sys2Proof.Laws.packBinary_masked _ b a
theorem Sys2Proof.Laws.RowBits.ifb (b a : Sys2Proof.OperandCode) :
    Sys2Proof.Laws.RowBits.Statement (.ifb b a) :=
  Sys2Proof.Laws.packBinary_masked _ b a
theorem Sys2Proof.Laws.RowBits.ifc (b a : Sys2Proof.OperandCode) :
    Sys2Proof.Laws.RowBits.Statement (.ifc b a) :=
  Sys2Proof.Laws.packBinary_masked _ b a
theorem Sys2Proof.Laws.RowBits.ife (b a : Sys2Proof.OperandCode) :
    Sys2Proof.Laws.RowBits.Statement (.ife b a) :=
  Sys2Proof.Laws.packBinary_masked _ b a
theorem Sys2Proof.Laws.RowBits.ifn (b a : Sys2Proof.OperandCode) :
    Sys2Proof.Laws.RowBits.Statement (.ifn b a) :=
  Sys2Proof.Laws.packBinary_masked _ b a
theorem Sys2Proof.Laws.RowBits.ifg (b a : Sys2Proof.OperandCode) :
    Sys2Proof.Laws.RowBits.Statement (.ifg b a) :=
  Sys2Proof.Laws.packBinary_masked _ b a
theorem Sys2Proof.Laws.RowBits.ifa (b a : Sys2Proof.OperandCode) :
    Sys2Proof.Laws.RowBits.Statement (.ifa b a) :=
  Sys2Proof.Laws.packBinary_masked _ b a
theorem Sys2Proof.Laws.RowBits.ifl (b a : Sys2Proof.OperandCode) :
    Sys2Proof.Laws.RowBits.Statement (.ifl b a) :=
  Sys2Proof.Laws.packBinary_masked _ b a
theorem Sys2Proof.Laws.RowBits.ifu (b a : Sys2Proof.OperandCode) :
    Sys2Proof.Laws.RowBits.Statement (.ifu b a) :=
  Sys2Proof.Laws.packBinary_masked _ b a
theorem Sys2Proof.Laws.RowBits.adx (b a : Sys2Proof.OperandCode) :
    Sys2Proof.Laws.RowBits.Statement (.adx b a) :=
  Sys2Proof.Laws.packBinary_masked _ b a
theorem Sys2Proof.Laws.RowBits.sbx (b a : Sys2Proof.OperandCode) :
    Sys2Proof.Laws.RowBits.Statement (.sbx b a) :=
  Sys2Proof.Laws.packBinary_masked _ b a
theorem Sys2Proof.Laws.RowBits.sti (b a : Sys2Proof.OperandCode) :
    Sys2Proof.Laws.RowBits.Statement (.sti b a) :=
  Sys2Proof.Laws.packBinary_masked _ b a
theorem Sys2Proof.Laws.RowBits.std (b a : Sys2Proof.OperandCode) :
    Sys2Proof.Laws.RowBits.Statement (.std b a) :=
  Sys2Proof.Laws.packBinary_masked _ b a
theorem Sys2Proof.Laws.RowBits.jsr (a : Sys2Proof.OperandCode) :
    Sys2Proof.Laws.RowBits.Statement (.jsr a) :=
  Sys2Proof.Laws.packSpecial_masked _ a
theorem Sys2Proof.Laws.RowBits.int (a : Sys2Proof.OperandCode) :
    Sys2Proof.Laws.RowBits.Statement (.int a) :=
  Sys2Proof.Laws.packSpecial_masked _ a
theorem Sys2Proof.Laws.RowBits.iag (a : Sys2Proof.OperandCode) :
    Sys2Proof.Laws.RowBits.Statement (.iag a) :=
  Sys2Proof.Laws.packSpecial_masked _ a
theorem Sys2Proof.Laws.RowBits.ias (a : Sys2Proof.OperandCode) :
    Sys2Proof.Laws.RowBits.Statement (.ias a) :=
  Sys2Proof.Laws.packSpecial_masked _ a
theorem Sys2Proof.Laws.RowBits.rfi (a : Sys2Proof.OperandCode) :
    Sys2Proof.Laws.RowBits.Statement (.rfi a) :=
  Sys2Proof.Laws.packSpecial_masked _ a
theorem Sys2Proof.Laws.RowBits.iaq (a : Sys2Proof.OperandCode) :
    Sys2Proof.Laws.RowBits.Statement (.iaq a) :=
  Sys2Proof.Laws.packSpecial_masked _ a
theorem Sys2Proof.Laws.RowBits.hwn (a : Sys2Proof.OperandCode) :
    Sys2Proof.Laws.RowBits.Statement (.hwn a) :=
  Sys2Proof.Laws.packSpecial_masked _ a
theorem Sys2Proof.Laws.RowBits.hwq (a : Sys2Proof.OperandCode) :
    Sys2Proof.Laws.RowBits.Statement (.hwq a) :=
  Sys2Proof.Laws.packSpecial_masked _ a
theorem Sys2Proof.Laws.RowBits.hwi (a : Sys2Proof.OperandCode) :
    Sys2Proof.Laws.RowBits.Statement (.hwi a) :=
  Sys2Proof.Laws.packSpecial_masked _ a
theorem Sys2Proof.Laws.RowBits.reservedOp18 (b a : Sys2Proof.OperandCode) :
    Sys2Proof.Laws.RowBits.Statement (.reservedOp18 b a) :=
  Sys2Proof.Laws.packBinary_masked _ b a
theorem Sys2Proof.Laws.RowBits.reservedOp19 (b a : Sys2Proof.OperandCode) :
    Sys2Proof.Laws.RowBits.Statement (.reservedOp19 b a) :=
  Sys2Proof.Laws.packBinary_masked _ b a
theorem Sys2Proof.Laws.RowBits.reservedOp1C (b a : Sys2Proof.OperandCode) :
    Sys2Proof.Laws.RowBits.Statement (.reservedOp1C b a) :=
  Sys2Proof.Laws.packBinary_masked _ b a
theorem Sys2Proof.Laws.RowBits.reservedOp1D (b a : Sys2Proof.OperandCode) :
    Sys2Proof.Laws.RowBits.Statement (.reservedOp1D b a) :=
  Sys2Proof.Laws.packBinary_masked _ b a
theorem Sys2Proof.Laws.RowBits.reservedSel00 (a : Sys2Proof.OperandCode) :
    Sys2Proof.Laws.RowBits.Statement (.reservedSel00 a) :=
  Sys2Proof.Laws.packSpecial_masked _ a
theorem Sys2Proof.Laws.RowBits.reservedSel02 (a : Sys2Proof.OperandCode) :
    Sys2Proof.Laws.RowBits.Statement (.reservedSel02 a) :=
  Sys2Proof.Laws.packSpecial_masked _ a
theorem Sys2Proof.Laws.RowBits.reservedSel03 (a : Sys2Proof.OperandCode) :
    Sys2Proof.Laws.RowBits.Statement (.reservedSel03 a) :=
  Sys2Proof.Laws.packSpecial_masked _ a
theorem Sys2Proof.Laws.RowBits.reservedSel04 (a : Sys2Proof.OperandCode) :
    Sys2Proof.Laws.RowBits.Statement (.reservedSel04 a) :=
  Sys2Proof.Laws.packSpecial_masked _ a
theorem Sys2Proof.Laws.RowBits.reservedSel05 (a : Sys2Proof.OperandCode) :
    Sys2Proof.Laws.RowBits.Statement (.reservedSel05 a) :=
  Sys2Proof.Laws.packSpecial_masked _ a
theorem Sys2Proof.Laws.RowBits.reservedSel06 (a : Sys2Proof.OperandCode) :
    Sys2Proof.Laws.RowBits.Statement (.reservedSel06 a) :=
  Sys2Proof.Laws.packSpecial_masked _ a
theorem Sys2Proof.Laws.RowBits.reservedSel07 (a : Sys2Proof.OperandCode) :
    Sys2Proof.Laws.RowBits.Statement (.reservedSel07 a) :=
  Sys2Proof.Laws.packSpecial_masked _ a
theorem Sys2Proof.Laws.RowBits.reservedSel0D (a : Sys2Proof.OperandCode) :
    Sys2Proof.Laws.RowBits.Statement (.reservedSel0D a) :=
  Sys2Proof.Laws.packSpecial_masked _ a
theorem Sys2Proof.Laws.RowBits.reservedSel0E (a : Sys2Proof.OperandCode) :
    Sys2Proof.Laws.RowBits.Statement (.reservedSel0E a) :=
  Sys2Proof.Laws.packSpecial_masked _ a
theorem Sys2Proof.Laws.RowBits.reservedSel0F (a : Sys2Proof.OperandCode) :
    Sys2Proof.Laws.RowBits.Statement (.reservedSel0F a) :=
  Sys2Proof.Laws.packSpecial_masked _ a
theorem Sys2Proof.Laws.RowBits.reservedSel13 (a : Sys2Proof.OperandCode) :
    Sys2Proof.Laws.RowBits.Statement (.reservedSel13 a) :=
  Sys2Proof.Laws.packSpecial_masked _ a
theorem Sys2Proof.Laws.RowBits.reservedSel14 (a : Sys2Proof.OperandCode) :
    Sys2Proof.Laws.RowBits.Statement (.reservedSel14 a) :=
  Sys2Proof.Laws.packSpecial_masked _ a
theorem Sys2Proof.Laws.RowBits.reservedSel15 (a : Sys2Proof.OperandCode) :
    Sys2Proof.Laws.RowBits.Statement (.reservedSel15 a) :=
  Sys2Proof.Laws.packSpecial_masked _ a
theorem Sys2Proof.Laws.RowBits.reservedSel16 (a : Sys2Proof.OperandCode) :
    Sys2Proof.Laws.RowBits.Statement (.reservedSel16 a) :=
  Sys2Proof.Laws.packSpecial_masked _ a
theorem Sys2Proof.Laws.RowBits.reservedSel17 (a : Sys2Proof.OperandCode) :
    Sys2Proof.Laws.RowBits.Statement (.reservedSel17 a) :=
  Sys2Proof.Laws.packSpecial_masked _ a
theorem Sys2Proof.Laws.RowBits.reservedSel18 (a : Sys2Proof.OperandCode) :
    Sys2Proof.Laws.RowBits.Statement (.reservedSel18 a) :=
  Sys2Proof.Laws.packSpecial_masked _ a
theorem Sys2Proof.Laws.RowBits.reservedSel19 (a : Sys2Proof.OperandCode) :
    Sys2Proof.Laws.RowBits.Statement (.reservedSel19 a) :=
  Sys2Proof.Laws.packSpecial_masked _ a
theorem Sys2Proof.Laws.RowBits.reservedSel1A (a : Sys2Proof.OperandCode) :
    Sys2Proof.Laws.RowBits.Statement (.reservedSel1A a) :=
  Sys2Proof.Laws.packSpecial_masked _ a
theorem Sys2Proof.Laws.RowBits.reservedSel1B (a : Sys2Proof.OperandCode) :
    Sys2Proof.Laws.RowBits.Statement (.reservedSel1B a) :=
  Sys2Proof.Laws.packSpecial_masked _ a
theorem Sys2Proof.Laws.RowBits.reservedSel1C (a : Sys2Proof.OperandCode) :
    Sys2Proof.Laws.RowBits.Statement (.reservedSel1C a) :=
  Sys2Proof.Laws.packSpecial_masked _ a
theorem Sys2Proof.Laws.RowBits.reservedSel1D (a : Sys2Proof.OperandCode) :
    Sys2Proof.Laws.RowBits.Statement (.reservedSel1D a) :=
  Sys2Proof.Laws.packSpecial_masked _ a
theorem Sys2Proof.Laws.RowBits.reservedSel1E (a : Sys2Proof.OperandCode) :
    Sys2Proof.Laws.RowBits.Statement (.reservedSel1E a) :=
  Sys2Proof.Laws.packSpecial_masked _ a
theorem Sys2Proof.Laws.RowBits.reservedSel1F (a : Sys2Proof.OperandCode) :
    Sys2Proof.Laws.RowBits.Statement (.reservedSel1F a) :=
  Sys2Proof.Laws.packSpecial_masked _ a
end

