-- ==== Sys2Proof/Tests/Slice0.lean ====
section
/-! SUPPORT. Tests.  Every expected value is copied from the spec: the examples of R57 to R92
(spec/40_opcode_tables.md) and the tables of spec/95_test_vectors.md, or is a hand calculation from a rule
the comment names. -/

namespace Sys2Proof.Tests

open Sys2Proof Sys2Proof.Machine Sys2Proof.Safety

/-- The inline literal of this value. -/
def lit (v : Int) (h : -1 ≤ v ∧ v ≤ 30 := by decide) : Lit := ⟨v, h⟩

/-- A state with these words loaded and a reset applied (R146). -/
def startAt (ws : List Word) : State := hostReset (hostLoad ws State.reset)

/-- The cursor and the output after one step. -/
def afterStep (s : State) : Option (Nat × List Line) :=
  match step s with
  | .next s' => some (s'.cursor, s'.out)
  | .fault _ => none
  | .refused _ => none

/-- One step on these words emits this line from index 0, leaves the cursor there, and has this text. -/
def emits (ws : List Word) (len : Len) (dec : Decoded) (text : String) : Bool :=
  decide (afterStep (startAt ws) = some (len.words, [⟨0, len, dec⟩])) && decide (render defaultText dec = text)

/-! ### Well-formedness (R45) -/

theorem test_wellFormed_refuses_b_code_0x20 : ¬ WellFormed (.set 0x20 0x00) := by decide
theorem test_wellFormed_refuses_reserved_b_code_0x3F : ¬ WellFormed (.reservedOp18 0x3F 0x00) := by decide
theorem test_wellFormed_takes_b_code_0x1F : WellFormed (.std 0x1F 0x3F) := by decide

/-! ### Fields (table V1) -/

theorem test_fields_of_0x55BE : fxOp 0x55BE = 0x1E ∧ fxB 0x55BE = 0x0D ∧ fxA 0x55BE = 0x15 := by decide
theorem test_fields_of_0xFFFF : fxOp 0xFFFF = 0x1F ∧ fxB 0xFFFF = 0x1F ∧ fxA 0xFFFF = 0x3F := by decide

/-! ### Decoding: one word of every row, from the examples of R57 to R92 and tables V3 to V5 -/

theorem test_decode_arithmetic :
    decode 0x8401 = .set 0x00 0x21 ∧
    decode 0x7C22 = .add 0x01 0x1F ∧
    decode 0x8843 = .sub 0x02 0x22 ∧
    decode 0x1064 = .mul 0x03 0x04 ∧
    decode 0x80E5 = .mli 0x07 0x20 ∧
    decode 0xACA6 = .div 0x05 0x2B ∧
    decode 0x20C7 = .dvi 0x06 0x08 ∧
    decode 0x8DC8 = .mod 0x0E 0x23 ∧
    decode 0x5409 = .mdi 0x00 0x15 := by decide

theorem test_decode_logic :
    decode 0x7C2A = .and 0x01 0x1F ∧
    decode 0x784B = .bor 0x02 0x1E ∧
    decode 0x000C = .xor 0x00 0x00 ∧
    decode 0x940D = .shr 0x00 0x25 ∧
    decode 0xC02E = .asr 0x01 0x30 ∧
    decode 0xFC4F = .shl 0x02 0x3F := by decide

theorem test_decode_conditional :
    decode 0x7C10 = .ifb 0x00 0x1F ∧
    decode 0x7C31 = .ifc 0x01 0x1F ∧
    decode 0xC412 = .ife 0x00 0x31 ∧
    decode 0x8473 = .ifn 0x03 0x21 ∧
    decode 0x1494 = .ifg 0x04 0x05 ∧
    decode 0x8015 = .ifa 0x00 0x20 ∧
    decode 0x03D6 = .ifl 0x1E 0x00 ∧
    decode 0x87B7 = .ifu 0x1D 0x21 := by decide

theorem test_decode_extended :
    decode 0x041A = .adx 0x00 0x01 ∧
    decode 0x8B7B = .sbx 0x1B 0x22 ∧
    decode 0x55BE = .sti 0x0D 0x15 ∧
    decode 0x65BF = .std 0x0D 0x19 := by decide

theorem test_decode_special :
    decode 0x7C20 = .jsr 0x1F ∧
    decode 0x9500 = .int 0x25 ∧
    decode 0x0120 = .iag 0x00 ∧
    decode 0x7D40 = .ias 0x1F ∧
    decode 0x8560 = .rfi 0x21 ∧
    decode 0x8980 = .iaq 0x22 ∧
    decode 0x1A00 = .hwn 0x06 ∧
    decode 0x0220 = .hwq 0x00 ∧
    decode 0x6A40 = .hwi 0x1A := by decide

theorem test_decode_reserved_opcodes :
    decode 0x7C18 = .reservedOp18 0x00 0x1F ∧
    decode 0x8419 = .reservedOp19 0x00 0x21 ∧
    decode 0x841C = .reservedOp1C 0x00 0x21 ∧
    decode 0x001D = .reservedOp1D 0x00 0x00 := by decide

theorem test_decode_absent_selectors_low :
    decode 0x0000 = .reservedSel00 0x00 ∧
    decode 0x7C40 = .reservedSel02 0x1F ∧
    decode 0x0060 = .reservedSel03 0x00 ∧
    decode 0x0080 = .reservedSel04 0x00 ∧
    decode 0x00A0 = .reservedSel05 0x00 ∧
    decode 0x00C0 = .reservedSel06 0x00 ∧
    decode 0x00E0 = .reservedSel07 0x00 ∧
    decode 0x01A0 = .reservedSel0D 0x00 ∧
    decode 0x01C0 = .reservedSel0E 0x00 ∧
    decode 0x01E0 = .reservedSel0F 0x00 ∧
    decode 0x0260 = .reservedSel13 0x00 ∧
    decode 0x0280 = .reservedSel14 0x00 := by decide

theorem test_decode_absent_selectors_high :
    decode 0x7EA0 = .reservedSel15 0x1F ∧
    decode 0x02C0 = .reservedSel16 0x00 ∧
    decode 0x02E0 = .reservedSel17 0x00 ∧
    decode 0x0300 = .reservedSel18 0x00 ∧
    decode 0x0320 = .reservedSel19 0x00 ∧
    decode 0x0340 = .reservedSel1A 0x00 ∧
    decode 0x0360 = .reservedSel1B 0x00 ∧
    decode 0x0380 = .reservedSel1C 0x00 ∧
    decode 0x03A0 = .reservedSel1D 0x00 ∧
    decode 0x03C0 = .reservedSel1E 0x00 ∧
    decode 0x03E0 = .reservedSel1F 0x00 := by decide

/-! ### Encoding: table V5, and both words of an instruction (R42) -/

theorem test_encode_shared_trailing_word : encodeWords (.set 0x1E 0x1F) 0x1000 = [0x7FC1, 0x1000] := by decide
theorem test_encode_hwn_is_one_word : encodeWords (.hwn 0x00) 0x1000 = [0x0200] := by decide
theorem test_table_word_order : decodeTableWord 32 0x00107C22 = some (.add 0x01 0x1F) := by decide

/-! ### One step of every instruction: the example of its rule, R57 to R92 -/

theorem test_step_set : emits [0x8401] .one (.binary 0x01 .set (.reg 0) (.litInline (lit 0))) "SET A, 0" = true := by decide

theorem test_step_add : emits [0x7C22, 0x0010] .two (.binary 0x02 .add (.reg 1) (.litWord 0x0010)) "ADD B, 0x0010" = true := by decide

theorem test_step_sub : emits [0x8843] .one (.binary 0x03 .sub (.reg 2) (.litInline (lit 1))) "SUB C, 1" = true := by decide

theorem test_step_mul : emits [0x1064] .one (.binary 0x04 .mul (.reg 3) (.reg 4)) "MUL X, Y" = true := by decide

theorem test_step_mli : emits [0x80E5] .one (.binary 0x05 .mli (.regInd 0) (.litInline (lit (-1)))) "MLI [A], -1" = true := by decide

theorem test_step_div : emits [0xACA6] .one (.binary 0x06 .div (.reg 5) (.litInline (lit 10))) "DIV Z, 10" = true := by decide

theorem test_step_dvi : emits [0x20C7] .one (.binary 0x07 .dvi (.reg 6) (.regInd 1)) "DVI I, [B]" = true := by decide

theorem test_step_mod : emits [0x8DC8, 0x0004] .two (.binary 0x08 .mod (.regIndOff 0 0x0004) (.litInline (lit 2))) "MOD [A + 0x0004], 2" = true := by decide

theorem test_step_mdi : emits [0x5409, 0x0100] .two (.binary 0x09 .mdi (.reg 0) (.regIndOff 7 0x0100)) "MDI A, [J + 0x0100]" = true := by decide

theorem test_step_and : emits [0x7C2A, 0x00FF] .two (.binary 0x0A .and (.reg 1) (.litWord 0x00FF)) "AND B, 0x00FF" = true := by decide

theorem test_step_bor : emits [0x784B, 0x8000] .two (.binary 0x0B .bor (.reg 2) (.memAbs 0x8000)) "BOR C, [0x8000]" = true := by decide

theorem test_step_xor : emits [0x000C] .one (.binary 0x0C .xor (.reg 0) (.reg 0)) "XOR A, A" = true := by decide

theorem test_step_shr : emits [0x940D] .one (.binary 0x0D .shr (.reg 0) (.litInline (lit 4))) "SHR A, 4" = true := by decide

theorem test_step_asr : emits [0xC02E] .one (.binary 0x0E .asr (.reg 1) (.litInline (lit 15))) "ASR B, 15" = true := by decide

theorem test_step_shl : emits [0xFC4F] .one (.binary 0x0F .shl (.reg 2) (.litInline (lit 30))) "SHL C, 30" = true := by decide

theorem test_step_ifb : emits [0x7C10, 0x0001] .two (.binary 0x10 .ifb (.reg 0) (.litWord 0x0001)) "IFB A, 0x0001" = true := by decide

theorem test_step_ifc : emits [0x7C31, 0x0002] .two (.binary 0x11 .ifc (.reg 1) (.litWord 0x0002)) "IFC B, 0x0002" = true := by decide

theorem test_step_ife : emits [0xC412] .one (.binary 0x12 .ife (.reg 0) (.litInline (lit 16))) "IFE A, 16" = true := by decide

theorem test_step_ifn : emits [0x8473] .one (.binary 0x13 .ifn (.reg 3) (.litInline (lit 0))) "IFN X, 0" = true := by decide

theorem test_step_ifg : emits [0x1494] .one (.binary 0x14 .ifg (.reg 4) (.reg 5)) "IFG Y, Z" = true := by decide

theorem test_step_ifa : emits [0x8015] .one (.binary 0x15 .ifa (.reg 0) (.litInline (lit (-1)))) "IFA A, -1" = true := by decide

theorem test_step_ifl : emits [0x03D6, 0x1000] .two (.binary 0x16 .ifl (.memAbs 0x1000) (.reg 0)) "IFL [0x1000], A" = true := by decide

theorem test_step_ifu : emits [0x87B7] .one (.binary 0x17 .ifu .ex (.litInline (lit 0))) "IFU EX, 0" = true := by decide

theorem test_step_adx : emits [0x041A] .one (.binary 0x1A .adx (.reg 0) (.reg 1)) "ADX A, B" = true := by decide

theorem test_step_sbx : emits [0x8B7B] .one (.binary 0x1B .sbx .sp (.litInline (lit 1))) "SBX SP, 1" = true := by decide

theorem test_step_sti : emits [0x55BE, 0x0000] .two (.binary 0x1E .sti (.regInd 6) (.regIndOff 7 0x0000)) "STI [I], [J + 0x0000]" = true := by decide

theorem test_step_std : emits [0x65BF] .one (.binary 0x1F .std (.regInd 6) .peek) "STD [I], PEEK" = true := by decide

theorem test_step_jsr : emits [0x7C20, 0x0020] .two (.special 0x01 .jsr (.litWord 0x0020)) "JSR 0x0020" = true := by decide

theorem test_step_int : emits [0x9500] .one (.special 0x08 .int (.litInline (lit 4))) "INT 4" = true := by decide

theorem test_step_iag : emits [0x0120] .one (.special 0x09 .iag (.reg 0)) "IAG A" = true := by decide

theorem test_step_ias : emits [0x7D40, 0x0040] .two (.special 0x0A .ias (.litWord 0x0040)) "IAS 0x0040" = true := by decide

theorem test_step_rfi : emits [0x8560] .one (.special 0x0B .rfi (.litInline (lit 0))) "RFI 0" = true := by decide

theorem test_step_iaq : emits [0x8980] .one (.special 0x0C .iaq (.litInline (lit 1))) "IAQ 1" = true := by decide

theorem test_step_hwn : emits [0x1A00] .one (.special 0x10 .hwn (.reg 6)) "HWN I" = true := by decide

theorem test_step_hwq : emits [0x0220] .one (.special 0x11 .hwq (.reg 0)) "HWQ A" = true := by decide

theorem test_step_hwi : emits [0x6A40, 0x0002] .two (.special 0x12 .hwi (.pick 0x0002)) "HWI PICK 0x0002" = true := by decide

/-! ### Corner cases of one step (table V5) -/

theorem test_corner_shared_trailing_word : emits [0x7FC1, 0x1000] .two (.binary 0x01 .set (.memAbs 0x1000) (.litWord 0x1000)) "SET [0x1000], 0x1000" = true := by decide

theorem test_corner_shared_trailing_word_register_offset : emits [0x55C2, 0x0003] .two (.binary 0x02 .add (.regIndOff 0 0x0003) (.regIndOff 7 0x0003)) "ADD [A + 0x0003], [J + 0x0003]" = true := by decide

theorem test_corner_push_and_pop : emits [0x6301, 0xBEEF] .one (.binary 0x01 .set .push .pop) "SET PUSH, POP" = true := by decide

theorem test_corner_unassigned_both : emits [0x5AE1, 0xBEEF] .one (.binary 0x01 .set (.unknown 0x17 .unassigned) (.unknown 0x16 .unassigned)) "SET unknown operand, unknown operand" = true := by decide

theorem test_corner_literal_destination : emits [0x83F2, 0x0007] .two (.binary 0x12 .ife (.litWord 0x0007) (.litInline (lit (-1)))) "IFE 0x0007, -1" = true := by decide

theorem test_corner_reserved_opcode_consuming_b : emits [0x03D8, 0x1234] .two (.unknownOpcode 0x18) "unknown opcode" = true := by decide

theorem test_corner_reserved_opcode_1D : emits [0x001D, 0x1234] .one (.unknownOpcode 0x1D) "unknown opcode" = true := by decide

theorem test_corner_hwn_consuming_a : emits [0x7A00, 0x0100] .two (.special 0x10 .hwn (.memAbs 0x0100)) "HWN [0x0100]" = true := by decide

theorem test_corner_hwn_register : emits [0x0200, 0x0100] .one (.special 0x10 .hwn (.reg 0)) "HWN A" = true := by decide

theorem test_corner_absent_selector_0E : emits [0x01C0, 0x0100] .one (.unknownSpecial 0x0E) "unknown special opcode" = true := by decide

theorem test_corner_absent_selector_15_consuming : emits [0x7EA0, 0x0100] .two (.unknownSpecial 0x15) "unknown special opcode" = true := by decide

theorem test_corner_jsr_pop : emits [0x6020, 0xBEEF] .one (.special 0x01 .jsr .pop) "JSR POP" = true := by decide

theorem test_corner_rfi_30 : emits [0xFD60, 0xBEEF] .one (.special 0x0B .rfi (.litInline (lit 30))) "RFI 30" = true := by decide

theorem test_corner_int_unassigned : emits [0x5900, 0xBEEF] .one (.special 0x08 .int (.unknown 0x16 .unassigned)) "INT unknown operand" = true := by decide

theorem test_corner_all_ones : emits [0xFFFF, 0x1234] .two (.binary 0x1F .std (.litWord 0x1234) (.litInline (lit 30))) "STD 0x1234, 30" = true := by decide

/-! ### Operand codes (table V2, t = 0x1234), as text -/

/-- The texts of `k` operand codes from `c` on. -/
def operandTexts (pos : Pos) (c k : Nat) : List String :=
  (List.range k).map fun i => renderOperand defaultText (od (BitVec.ofNat 6 (c + i)) 0x1234 pos).1

theorem test_operand_texts_b_from_0x00 : operandTexts .b 0x00 16 =
    ["A", "B", "C", "X", "Y", "Z", "I", "[A]", "[B]", "[C]", "[X]", "[Y]", "[Z]", "[I]", "[A + 0x1234]", "[B + 0x1234]"] := by decide

theorem test_operand_texts_b_from_0x10 : operandTexts .b 0x10 16 =
    ["[C + 0x1234]", "[X + 0x1234]", "[Y + 0x1234]", "[Z + 0x1234]", "[I + 0x1234]", "[J + 0x1234]", "unknown operand", "unknown operand", "PUSH", "PEEK", "PICK 0x1234", "SP", "PC", "EX", "[0x1234]", "0x1234"] := by decide

theorem test_operand_texts_b_from_0x20 : operandTexts .b 0x20 16 =
    ["unknown operand", "unknown operand", "unknown operand", "unknown operand", "unknown operand", "unknown operand", "unknown operand", "unknown operand", "unknown operand", "unknown operand", "unknown operand", "unknown operand", "unknown operand", "unknown operand", "unknown operand", "unknown operand"] := by decide

theorem test_operand_texts_b_from_0x30 : operandTexts .b 0x30 16 =
    ["unknown operand", "unknown operand", "unknown operand", "unknown operand", "unknown operand", "unknown operand", "unknown operand", "unknown operand", "unknown operand", "unknown operand", "unknown operand", "unknown operand", "unknown operand", "unknown operand", "unknown operand", "unknown operand"] := by decide

theorem test_operand_texts_a_from_0x00 : operandTexts .a 0x00 16 =
    ["A", "B", "C", "X", "Y", "Z", "I", "[A]", "[B]", "[C]", "[X]", "[Y]", "[Z]", "[I]", "[A + 0x1234]", "[B + 0x1234]"] := by decide

theorem test_operand_texts_a_from_0x10 : operandTexts .a 0x10 16 =
    ["[C + 0x1234]", "[X + 0x1234]", "[Y + 0x1234]", "[Z + 0x1234]", "[I + 0x1234]", "[J + 0x1234]", "unknown operand", "unknown operand", "POP", "PEEK", "PICK 0x1234", "SP", "PC", "EX", "[0x1234]", "0x1234"] := by decide

theorem test_operand_texts_a_from_0x20 : operandTexts .a 0x20 16 =
    ["-1", "0", "1", "2", "3", "4", "5", "6", "7", "8", "9", "10", "11", "12", "13", "14"] := by decide

theorem test_operand_texts_a_from_0x30 : operandTexts .a 0x30 16 =
    ["15", "16", "17", "18", "19", "20", "21", "22", "23", "24", "25", "26", "27", "28", "29", "30"] := by decide

theorem test_consuming_codes : ((List.range 64).filter fun c => consumes (BitVec.ofNat 6 c)) =
    [14, 15, 16, 17, 18, 19, 20, 21, 26, 30, 31] := by decide

/-! ### The end of the stream and the done state (table V7, R122, R137) -/

theorem test_truncated_last_instruction :
    afterStep (startAt [0x7C01]) = some (2, [⟨0, .two, .binary 0x01 .set (.reg 0) (.litWord 0x0000)⟩]) := by decide

theorem test_done_state_holds : afterStep { startAt [0x8401] with cursor := 1 } = some (1, []) := by decide

theorem test_second_line_is_appended :
    afterStep { startAt [0x8401, 0x7C01] with cursor := 1, out := [⟨0, .one, .binary 0x01 .set (.reg 0) (.litInline (lit 0))⟩] }
      = some (3, [⟨0, .one, .binary 0x01 .set (.reg 0) (.litInline (lit 0))⟩,
        ⟨1, .two, .binary 0x01 .set (.reg 0) (.litWord 0x0000)⟩]) := by decide

/-- R149's stream: the run of R125 gives SET [0x1000], 0x1000 and then JSR A. -/
theorem test_run_of_three_word_stream : run (Memory.ofWords [0x7FC1, 0x1000, 0x0020]) =
    (3, [⟨0, .two, .binary 0x01 .set (.memAbs 0x1000) (.litWord 0x1000)⟩, ⟨2, .one, .special 0x01 .jsr (.reg 0)⟩]) := by
  decide

/-! ### The store -/

theorem test_loaded_zero_is_not_listed : Memory.ofWords [0x0000, 0x8401, 0x0000] = ⟨3, [(1, 0x8401)]⟩ := by decide
theorem test_putting_zero_removes_the_cell : (Memory.ofWords [0x8401, 0x7C01]).put 0 0x0000 = ⟨2, [(1, 0x7C01)]⟩ := by decide
theorem test_fetch_word_runs_next :
    afterStep (State.reset.withFetchWord 16 0x7C22) =
      some (2, [⟨0, .two, .binary 0x02 .add (.reg 1) (.litWord 0x0000)⟩]) := by decide

/-! ### Witnesses: for every statement with hypotheses, concrete values that meet them together -/

/-- In the middle of a run: SET A, 0 emitted, a two-word instruction at the last index to come. -/
def midRun : State := ⟨Memory.ofWords [0x8401, 0x7C01], 1, [⟨0, .one, .binary 0x01 .set (.reg 0) (.litInline (lit 0))⟩]⟩

/-- The run of `midRun` at its end, the cursor at n + 1. -/
def cutOff : State := ⟨Memory.ofWords [0x8401, 0x7C01], 3,
  [⟨0, .one, .binary 0x01 .set (.reg 0) (.litInline (lit 0))⟩, ⟨1, .two, .binary 0x01 .set (.reg 0) (.litWord 0x0000)⟩]⟩

theorem witness_DecodeOfEncode : WellFormed (.set 0x1F 0x3F) ∧ WellFormed (.hwi 0x3F) := by decide

theorem witness_ConsumingCodes : fxOp 0x7C01 ≠ 0 ∧ wordLen 0x7C01 = .two := by decide

theorem witness_Tables : (binTable 0x1F).isSome = true ∧ binTable 0x1F = binTable 0x1F ∧
    (specTable 0x12).isSome = true ∧ specTable 0x12 = specTable 0x12 := by decide

theorem witness_RegisterModes_bounds : (0x00#6 ≤ 0x06#6 ∧ 0x06#6 ≤ 0x06#6) ∧
    (0x07#6 ≤ 0x07#6 ∧ 0x07#6 ≤ 0x0D#6 ∧ 0x0D#6 ≤ 0x0D#6) ∧
    (0x0E#6 ≤ 0x0E#6 ∧ 0x0E#6 ≤ 0x15#6 ∧ 0x15#6 ≤ 0x15#6) := by decide

theorem witness_RegisterModes_meeting_points : od 0x06 0 .b = (.reg 6, false) ∧ od 0x07 0 .b = (.regInd 0, false) ∧
    od 0x0D 0 .a = (.regInd 6, false) ∧ od 0x0E 0 .a = (.regIndOff 0 0, true) ∧
    od 0x15 0 .a = (.regIndOff 7 0, true) ∧ od 0x16 0 .a = (.unknown 0x16 .unassigned, false) := by decide

theorem witness_UnassignedCodes_operand : (od 0x16 0 .a).1 = .unknown 0x16 .unassigned ∧
    (od 0x17 0 .b).1 = .unknown 0x17 .unassigned := by decide

/-- For UnassignedCodesAreUnknownOperands and RecognizedFormsDecodeTheirOperands. -/
theorem witness_recognized_binary : fxOp 0x02E1 ≠ 0 ∧ binTable (fxOp 0x02E1) = some .set := by decide

/-- For the same two statements, and for `specTable 0x01 = some m`. -/
theorem witness_recognized_special : fxOp 0x7C20 = 0 ∧ specTable (fxB 0x7C20) = some .jsr ∧ specTable 0x01 = some .jsr := by decide

/-- For UnrecognizedFormsKeepTheirCodeAndLength. -/
theorem witness_unrecognized : (fxOp 0x7C40 = 0 ∧ specTable (fxB 0x7C40) = none) ∧
    (fxOp 0x7C18 ≠ 0 ∧ binTable (fxOp 0x7C18) = none) := by decide

theorem witness_StackOperands_names : defaultText.names.Admissible := by decide

theorem witness_StackOperands_words : idDecoded 0x6301 0xBEEF = .binary 0x01 .set .push .pop ∧
    idDecoded 0x6020 0xBEEF = .special 0x01 .jsr .pop ∧ specTable 0x01 = some .jsr := by decide

theorem witness_MemoryAndLiteral : binTable 0x01 = some .set ∧ binTable 0x1F = some .std := by decide

theorem witness_InlineLiterals_bounds : (0x20#6 ≤ 0x20#6 ∧ 0x20#6 ≤ 0x3F#6) ∧
    ((-1 : Int) ≤ -1 ∧ (-1 : Int) ≤ 30 ∧ (30 : Int) ≤ 30) := by decide

theorem witness_PositionAndTrailingWord : (0x0000 : Word) ≠ 0xFFFF ∧ consumes 0x0E = true ∧ consumes 0x18 = false := by
  decide

theorem witness_LengthAgrees : idDecoded 0x7FC1 0x1000 = .binary 0x01 .set (.memAbs 0x1000) (.litWord 0x1000) ∧
    idDecoded 0x0200 0x0100 = .special 0x10 .hwn (.reg 0) := by decide

theorem witness_UnconsumedTrailingWord : wordLen 0x8401 = .one ∧ idDecoded 0x03D8 0x1234 = .unknownOpcode 0x18 ∧
    idDecoded 0x7EA0 0x0100 = .unknownSpecial 0x15 := by decide

/-- AnomalyCauseCodesOfALine has no hypotheses; one unknown operand, and two of one cause, as at the operand
decoder's own port (R108, R129). -/
theorem test_anomaly_codes :
    (decodedAnomalies (.binary 0x01 .set (.unknown 0x17 .unassigned) (.reg 0))).map anomalyCode = [3] ∧
    (decodedAnomalies (.binary 0x01 .set (.unknown 0x20 .literalInB) (.unknown 0x3F .literalInB))).map anomalyCode
      = [4, 4] ∧
    (decodedAnomalies (.special 0x01 .jsr .pop)).map anomalyCode = [] := by decide

theorem witness_StepRunsDecoded : midRun.cursor < midRun.words.n ∧
    decode (midRun.words.wordAt midRun.cursor) = .set 0x00 0x1F ∧ WellFormed (.set 0x00 0x1F) ∧
    midRun.words.wordAt midRun.cursor = encode (.set 0x00 0x1F) := by decide

/-- For every statement about a state that is not done. -/
theorem witness_not_done : midRun.cursor < midRun.words.n ∧ (startAt [0x8401]).cursor < (startAt [0x8401]).words.n := by
  decide

/-- For StepIsTheSequencerOverTheInstructionDecoder (its second case), DoneStateHolds and LoadedWordsReadBackAndZeroPastTheEnd. -/
theorem witness_done : ¬ cutOff.cursor < cutOff.words.n ∧ cutOff.words.n ≤ cutOff.cursor := by decide

/-- For EveryStepKeepsTheRunInvariant (with `witness_RunInv`) and LengthIsOfTheFormAndOperandCodesAlone. -/
theorem witness_step_of_midRun : step midRun = .next cutOff := rfl

/-- For LoadedWordsReadBackAndZeroPastTheEnd. -/
theorem witness_step_when_done : step cutOff = .next cutOff := rfl

theorem witness_OutputGrows : runSteps 1 (startAt [0x8401, 0x7C01]) = .next midRun ∧
    midRun.cursor < midRun.words.n := ⟨rfl, by decide⟩

theorem witness_Truncated : midRun.cursor + 1 = midRun.words.n ∧
    wordLen (midRun.words.wordAt midRun.cursor) = .two := by decide

/-- Two states that agree on the cursor and its two words only, for a two-word and for a one-word instruction. -/
theorem witness_StepDependsOnTwoWords :
    (midRun.cursor = (⟨Memory.ofWords [0x0000, 0x7C01, 0x0000, 0x8401], 1, []⟩ : State).cursor ∧
      midRun.words.wordAt 1 = (Memory.ofWords [0x0000, 0x7C01, 0x0000, 0x8401]).wordAt 1 ∧
      midRun.words.wordAt 2 = (Memory.ofWords [0x0000, 0x7C01, 0x0000, 0x8401]).wordAt 2) ∧
    ((Memory.ofWords [0x8401, 0x1111]).wordAt 0 = (Memory.ofWords [0x8401, 0x2222]).wordAt 0 ∧
      wordLen ((Memory.ofWords [0x8401, 0x1111]).wordAt 0) = .one) := by decide

theorem witness_LoadedWords_bounds : (Memory.ofWords [0x8401, 0x7C01]).n ≤ 2 ∧
    (Memory.ofWords [0x8401, 0x7C01]).wordAt 1 = 0x7C01 ∧ (Memory.ofWords [0x8401, 0x7C01]).wordAt 2 = 0x0000 := by
  decide

/-- For PlacedWordReadsBackAndOthersKeep and ResetEstablishesTheRunInvariant. -/
theorem witness_PlacedWord : (Memory.ofWords [0x8401, 0x0000, 0x7C01]).wf = true ∧ (0 : Nat) ≠ 1 := by decide

theorem witness_CanonicalStores : (Memory.ofWords [0x8401, 0x0000]).wf = true ∧
    ((Memory.ofWords [0x8401, 0x7C01]).put 1 0x0000).wf = true ∧
    (Memory.ofWords [0x8401, 0x0000]).n = ((Memory.ofWords [0x8401, 0x7C01]).put 1 0x0000).n ∧
    ∀ k < (Memory.ofWords [0x8401, 0x0000]).n, (Memory.ofWords [0x8401, 0x0000]).wordAt k =
      ((Memory.ofWords [0x8401, 0x7C01]).put 1 0x0000).wordAt k := by decide

/-- For EveryStepKeepsTheRunInvariant, CursorNeverPassesTheEndByMoreThanOne and CutOffLinesAreThoseReachingPastTheEnd. -/
theorem witness_RunInv : RunInv midRun ∧ RunInv cutOff ∧ cutOff.cursor = cutOff.words.n + 1 := by decide

/-- The invariant rules something out: a wrong cursor, a line that is not what the words decode to. -/
theorem witness_RunInv_refuses : ¬ RunInv { midRun with cursor := 2 } ∧
    ¬ RunInv { midRun with out := [⟨0, .one, .unknownOpcode 0x18⟩] } := by decide

theorem witness_CutOffLines : (⟨1, .two, .binary 0x01 .set (.reg 0) (.litWord 0x0000)⟩ : Line) ∈ cutOff.out ∧
    cutOff.words.n < 1 + Len.two.words := by decide

theorem witness_EveryRunEnds : (startAt [0x8401, 0x7C01]).cursor ≤ (startAt [0x8401, 0x7C01]).words.n := by decide

theorem witness_Boundaries : (run (Memory.ofWords [0x7C01, 0x8401, 0x8402])).2[1]? =
      some ⟨2, .one, .binary 0x02 .add (.reg 0) (.litInline (lit 0))⟩ ∧
    (⟨0, .two, .binary 0x01 .set (.reg 0) (.litWord 0x8401)⟩ : Line) ∈
      (run (Memory.ofWords [0x7C01, 0x8401, 0x8402])).2 := by decide

theorem witness_EncodedStream : ∀ p ∈ [((.set 0x1E 0x1F, 0x1000) : Instr × Word), (.jsr 0x00, 0x0000)],
    WellFormed p.1 := by decide

theorem witness_CursorRegister : RunInv midRun ∧ midRun.cursor < midRun.words.n ∧ CursorWidthFits 2 midRun.words.n := by
  decide

theorem witness_WordFormat : fmtWordHex 0xBEEF = fmtWordHex 0xBEEF ∧ fmtWordHex 0xBEEF ≠ fmtWordHex 0xBEEE := by decide

theorem witness_PlacedInstruction : midRun.words.wf = true ∧ (0 : Nat) ≠ midRun.cursor ∧ (0 : Nat) ≠ midRun.cursor + 1 := by
  decide

theorem witness_LengthOfFormAndCodes :
    (fxOp 0x7C18 ≠ 0 ∧ fxOp 0x7C01 ≠ 0 ∧ fxB 0x7C18 = fxB 0x7C01 ∧ fxA 0x7C18 = fxA 0x7C01) ∧
    (fxOp 0x7C40 = 0 ∧ fxOp 0x7C20 = 0 ∧ fxA 0x7C40 = fxA 0x7C20) := by decide


/-- For AnomalyLeavesBoundariesAndOtherLines: an unknown and a known opcode at index 0, alike elsewhere; the line
at index 2 is a later one. -/
theorem witness_AnomalyLeavesOthers :
    let m := Memory.ofWords [0x7C18, 0x0005, 0x8401]
    let m' := Memory.ofWords [0x7C01, 0x0005, 0x8401]
    m.n = m'.n ∧ (∀ j : Nat, j ≠ 0 → m.wordAt j = m'.wordAt j) ∧
    (fxOp (m.wordAt 0) ≠ 0 ∧ fxOp (m'.wordAt 0) ≠ 0 ∧ fxB (m.wordAt 0) = fxB (m'.wordAt 0) ∧
      fxA (m.wordAt 0) = fxA (m'.wordAt 0)) ∧
    (run m).2[1]? = some ⟨2, .one, .binary 0x01 .set (.reg 0) (.litInline (lit 0))⟩ ∧ (2 : Nat) ≠ 0 := by
  refine ⟨rfl, fun j hj => ?_, by decide, by decide, by decide⟩
  obtain ⟨j, rfl⟩ := Nat.exists_eq_succ_of_ne_zero hj
  rfl

end Sys2Proof.Tests
end

section
/-! PROOFS. Reading the word store (R33): after a load, past the end, and by a step of a done machine. -/

namespace Sys2Proof.Machine

theorem lookupCell_cons_self (i : Nat) (w : Word) (cs : List WordCell) : lookupCell ((i, w) :: cs) i = w :=
  if_pos rfl

theorem lookupCell_cons_ne {i k : Nat} (h : i ≠ k) (w : Word) (cs : List WordCell) :
    lookupCell ((i, w) :: cs) k = lookupCell cs k :=
  if_neg h

/-- Canonical cells list no index below their first: the search for one runs off the end. -/
theorem lookupCell_of_lt {cs : List WordCell} {lo hi k : Nat} (hwf : cellsWf lo hi cs = true) (hk : k < lo) :
    lookupCell cs k = unlistedWord := by
  induction cs generalizing lo with
  | nil => rfl
  | cons c cs ih =>
    obtain ⟨i, w⟩ := c
    obtain ⟨hlo, -, -, hcs⟩ := cellsWf_cons.1 hwf
    rw [lookupCell_cons_ne (by omega)]
    exact ih hcs (by omega)

/-- The word just before the first listed one is not listed: a loaded 0x0000 leaves no cell. -/
theorem lookupCell_cellsFrom_succ (i : Nat) (ws : List Word) :
    lookupCell (cellsFrom (i + 1) ws) i = unlistedWord :=
  lookupCell_of_lt (cellsFrom_wf ws (i + 1) _ le_rfl) (Nat.lt_succ_self i)

/-- The cells of a sequence placed at `i` list its `k`-th word at `i + k`, the zero words by listing nothing. -/
theorem lookupCell_cellsFrom_add {ws : List Word} {k : Nat} (i : Nat) (hk : k < ws.length) :
    lookupCell (cellsFrom i ws) (i + k) = ws[k] := by
  induction ws generalizing i k with
  | nil => exact absurd hk (Nat.not_lt_zero k)
  | cons w ws ih =>
    unfold cellsFrom
    cases k with
    | zero =>
      split
      next hw => exact (lookupCell_cellsFrom_succ i ws).trans hw.symm
      next => exact lookupCell_cons_self i w _
    | succ k =>
      have htail : lookupCell (cellsFrom (i + 1) ws) (i + (k + 1)) = ws[k]'(Nat.lt_of_succ_lt_succ hk) := by
        rw [← Nat.add_assoc, Nat.add_right_comm]
        exact ih (i + 1) (Nat.lt_of_succ_lt_succ hk)
      split
      next => exact htail
      next => exact (lookupCell_cons_ne (by omega) w _).trans htail

/-- R33: a read past the end. -/
theorem wordAt_of_le {m : Memory} {k : Nat} (h : m.n ≤ k) : m.wordAt k = 0x0000#16 :=
  if_neg (Nat.not_lt.2 h)

/-- R33, R138: a read below the end of a loaded store. -/
theorem wordAt_ofWords {ws : List Word} {k : Nat} (h : k < ws.length) : (Memory.ofWords ws).wordAt k = ws[k] := by
  have hcell := lookupCell_cellsFrom_add 0 h
  rw [Nat.zero_add] at hcell
  exact (wordAt_lt h).trans hcell

/-- R137: a done machine holds its state. -/
theorem step_of_done {s : State} (h : s.words.n ≤ s.cursor) : step s = .next s :=
  if_pos (done_iff.2 h)

/-- Settles O39: below `n` by the cells of the load, at and past `n` by the bound of `wordAt`, and a step with the
cursor there is the done step. -/
theorem loadedWordsReadBackAndZeroPastTheEnd : Obligations.LoadedWordsReadBackAndZeroPastTheEnd := by
  refine ⟨fun ws s k => ⟨rfl, ?_⟩, fun m k => wordAt_of_le, fun s s' hend hstep => ?_⟩
  · rw [hostLoad_words]
    split
    next hk => exact wordAt_ofWords hk
    next hk => exact wordAt_of_le (Nat.not_lt.1 hk)
  · cases (step_of_done hend).symm.trans hstep
    rfl

end Sys2Proof.Machine
end

section
/-! PROOFS. The field extractor (R43): each field is a shift and a mask, and packing the fields undoes it. -/

namespace Sys2Proof.Laws

open Sys2Proof

/-- A field of `n` bits from bit `start` up is the word shifted right and masked to `n` ones. -/
theorem setWidth_extractLsb'_eq_shift_mask (w : Word) (start : Nat) {n : Nat} (hn : n ≤ 16) :
    (w.extractLsb' start n).setWidth 16 = (w >>> start) &&& BitVec.ofNat 16 (2 ^ n - 1) := by
  have hpow : 2 ^ n ≤ 2 ^ 16 := Nat.pow_le_pow_right (by decide) hn
  have hfield : w.toNat >>> start % 2 ^ n < 2 ^ 16 := (Nat.mod_lt _ (Nat.two_pow_pos n)).trans_le hpow
  have hmask : 2 ^ n - 1 < 2 ^ 16 := (Nat.sub_lt (Nat.two_pow_pos n) Nat.one_pos).trans_le hpow
  apply BitVec.eq_of_toNat_eq
  rw [BitVec.toNat_setWidth, BitVec.extractLsb'_toNat, Nat.mod_eq_of_lt hfield, BitVec.toNat_and,
    BitVec.toNat_ushiftRight, BitVec.toNat_ofNat, Nat.mod_eq_of_lt hmask, Nat.and_two_pow_sub_one_eq_mod]

theorem fxOp_eq_mask (w : Word) : (fxOp w).setWidth 16 = w &&& 0x001F#16 := by
  have h := setWidth_extractLsb'_eq_shift_mask w 0 (n := 5) (by decide)
  rwa [BitVec.ushiftRight_zero] at h

theorem fxB_eq_shift_mask (w : Word) : (fxB w).setWidth 16 = (w >>> 5) &&& 0x001F#16 :=
  setWidth_extractLsb'_eq_shift_mask w 5 (by decide)

theorem fxA_eq_shift_mask (w : Word) : (fxA w).setWidth 16 = (w >>> 10) &&& 0x003F#16 :=
  setWidth_extractLsb'_eq_shift_mask w 10 (by decide)

/-- A field of `n` bits from bit `start` up, shifted back to its place, is the word's own bits there and 0 elsewhere. -/
theorem getLsbD_extractLsb'_shiftLeft (w : Word) (start n : Nat) {i : Nat} (hi : i < 16) :
    ((w.extractLsb' start n).setWidth 16 <<< start).getLsbD i =
      (decide (start ≤ i ∧ i < start + n) && w.getLsbD i) := by
  simp only [BitVec.getLsbD_shiftLeft, BitVec.getLsbD_setWidth, BitVec.getLsbD_extractLsb']
  rcases Nat.lt_or_ge i start with h | h
  · simp [h]
  · simp [hi, h, Nat.add_sub_cancel' h, show i - start < 16 by omega, Nat.sub_lt_iff_lt_add' h]

/-- R43, the other way: each bit of a word lies in one of its three fields, and packing puts it back there. -/
@[simp] theorem packFields_fields (w : Word) : packFields (fxOp w) (fxB w) (fxA w) = w := by
  apply BitVec.eq_of_getLsbD_eq
  intro i hi
  have hop := getLsbD_extractLsb'_shiftLeft w 0 5 hi
  rw [BitVec.shiftLeft_zero] at hop
  have hcover : (10 ≤ i ∧ i < 16) ∨ (5 ≤ i ∧ i < 10) ∨ (0 ≤ i ∧ i < 5) := by omega
  simp only [packFields, fxOp, fxB, fxA, BitVec.getLsbD_or, getLsbD_extractLsb'_shiftLeft _ _ _ hi, hop,
    ← Bool.and_or_distrib_right, ← Bool.decide_or, or_assoc, hcover, decide_true, Bool.true_and]

/-- Settles O1: the slices by shift and mask, and the correspondence because `packFields` and the three fields
undo each other. -/
theorem fieldsAreSlicesAndBijective : Obligations.FieldsAreSlicesAndBijective := by
  refine ⟨fun w => ⟨fxOp_eq_mask w, fxB_eq_shift_mask w, fxA_eq_shift_mask w⟩, fun op bf af => ?_,
    fun w => (packFields_fields w).symm⟩
  refine ⟨packFields op bf af,
    ⟨fxOp_packFields op bf af, fxB_packFields op bf af, fxA_packFields op bf af⟩, ?_⟩
  rintro w ⟨rfl, rfl, rfl⟩
  exact (packFields_fields w).symm

end Sys2Proof.Laws
end

section
/-! PROOFS. The form of a decoded instruction (R44) and the text of a line (R52). -/

namespace Sys2Proof.Machine

/-- The special form with selector `sel`, recognized or not (R112, R113). -/
def IsSpecialForm (sel : Field5) (d : Decoded) : Prop :=
  (∃ m a, d = .special sel m a) ∨ d = .unknownSpecial sel

/-- The binary form with opcode `op`, recognized or not (R114, R115). -/
def IsBinaryForm (op : Field5) (d : Decoded) : Prop :=
  (∃ m b a, d = .binary op m b a) ∨ d = .unknownOpcode op

theorem IsSpecialForm.not_isBinaryForm {sel op : Field5} {d : Decoded} (hs : IsSpecialForm sel d) :
    ¬ IsBinaryForm op d := by
  rintro (⟨m, b, a, rfl⟩ | rfl) <;> simp [IsSpecialForm] at hs

/-- A selector missing from the special table leaves the word in the special form. -/
theorem idDecoded_isSpecialForm {w : Word} (t : Word) (h : fxOp w = 0) : IsSpecialForm (fxB w) (idDecoded w t) := by
  rw [idDecoded, if_pos h]
  cases specTable (fxB w) with
  | some m => exact .inl ⟨m, _, rfl⟩
  | none => exact .inr rfl

/-- An opcode missing from the binary table leaves the word in the binary form. -/
theorem idDecoded_isBinaryForm {w : Word} (t : Word) (h : fxOp w ≠ 0) : IsBinaryForm (fxOp w) (idDecoded w t) := by
  rw [idDecoded, if_neg h]
  cases binTable (fxOp w) with
  | some m => exact .inl ⟨m, _, _, rfl⟩
  | none => exact .inr rfl

/-- Settles O2: each opcode field gives its own form, and no decoded value has both. -/
theorem formIsDecidedByOpcodeAlone : Obligations.FormIsDecidedByOpcodeAlone := by
  intro w t
  refine ⟨⟨fun hs => ?_, idDecoded_isSpecialForm t⟩, ⟨fun hb hop => ?_, idDecoded_isBinaryForm t⟩⟩
  · by_contra hop
    exact IsSpecialForm.not_isBinaryForm hs (idDecoded_isBinaryForm t hop)
  · exact (idDecoded_isSpecialForm t hop).not_isBinaryForm hb

@[simp] theorem render_binary (cfg : TextConfig) (op : Field5) (m : BinMnemonic) (b a : Operand) :
    render cfg (.binary op m b a) =
      cfg.binName m ++ " " ++ renderOperand cfg b ++ ", " ++ renderOperand cfg a := rfl

@[simp] theorem render_special (cfg : TextConfig) (sel : Field5) (m : SpecMnemonic) (a : Operand) :
    render cfg (.special sel m a) = cfg.specName m ++ " " ++ renderOperand cfg a := rfl

@[simp] theorem render_unknownOpcode (cfg : TextConfig) (op : Field5) :
    render cfg (.unknownOpcode op) = cfg.unknownOpcode := rfl

@[simp] theorem render_unknownSpecial (cfg : TextConfig) (sel : Field5) :
    render cfg (.unknownSpecial sel) = cfg.unknownSpecial := rfl

/-- Settles O51: the equation of `render` for each of the four decoded forms. -/
theorem linesAreWrittenInTheCanonicalFormat : Obligations.LinesAreWrittenInTheCanonicalFormat :=
  ⟨render_binary, render_special, fun cfg k => ⟨render_unknownOpcode cfg k, render_unknownSpecial cfg k⟩⟩

end Sys2Proof.Machine
end

section
/-! PROOFS. The operand code map (R93 to R109) as a relation, one constructor per rule: which codes, in which
position, give which operand. `operandDesc_eq_iff` ties it to the operand decoder, in both directions. -/

namespace Sys2Proof.Machine

/-- The code `c` with trailing word `t` in position `pos` describes this operand. -/
inductive CodeMap : OperandCode → Word → Pos → Operand → Prop
  /-- R94 -/
  | reg {c t pos} {r : Fin 8} (hc : c.toNat = r.val) (hr : r.val ≤ 6) : CodeMap c t pos (.reg r)
  /-- R95 -/
  | regInd {c t pos} {r : Fin 8} (hc : c.toNat = 0x07 + r.val) (hr : r.val ≤ 6) : CodeMap c t pos (.regInd r)
  /-- R96 -/
  | regIndOff {c t pos} {r : Fin 8} (hc : c.toNat = 0x0E + r.val) : CodeMap c t pos (.regIndOff r t)
  /-- R97 -/
  | unassigned {c t pos} (hc : c = 0x16 ∨ c = 0x17) : CodeMap c t pos (.unknown c .unassigned)
  /-- R98 -/
  | push {t} : CodeMap 0x18 t .b .push
  /-- R99 -/
  | pop {t} : CodeMap 0x18 t .a .pop
  /-- R100 -/
  | peek {t pos} : CodeMap 0x19 t pos .peek
  /-- R101 -/
  | pick {t pos} : CodeMap 0x1A t pos (.pick t)
  /-- R102 -/
  | sp {t pos} : CodeMap 0x1B t pos .sp
  /-- R103 -/
  | pc {t pos} : CodeMap 0x1C t pos .pc
  /-- R104 -/
  | ex {t pos} : CodeMap 0x1D t pos .ex
  /-- R105 -/
  | memAbs {t pos} : CodeMap 0x1E t pos (.memAbs t)
  /-- R106 -/
  | litWord {t pos} : CodeMap 0x1F t pos (.litWord t)
  /-- R107 -/
  | litInline {c t} {v : Lit} (hc : 0x20 ≤ c.toNat) (hv : v.val = (c.toNat : Int) - 0x21) :
      CodeMap c t .a (.litInline v)
  /-- R108 -/
  | literalInB {c t} (hc : 0x20 ≤ c.toNat) : CodeMap c t .b (.unknown c .literalInB)

theorem regIdx_eq {k : Nat} {r : Fin 8} (h : k = r.val) : regIdx k = r :=
  Fin.ext ((regIdx_val (h ▸ r.isLt)).trans h)

/-- A row of the map is what the operand decoder describes. -/
theorem operandDesc_of_codeMap {c : OperandCode} {t : Word} {pos : Pos} {d : Operand} (h : CodeMap c t pos d) :
    operandDesc c t pos = d := by
  cases h with
  | reg hc hr =>
    unfold operandDesc
    rw [if_pos (by omega), regIdx_eq hc]
  | regInd hc hr =>
    unfold operandDesc
    rw [if_neg (by omega), if_pos (by omega), regIdx_eq (Nat.sub_eq_of_eq_add' hc)]
  | regIndOff hc =>
    unfold operandDesc
    rw [if_neg (by omega), if_neg (by omega), if_pos (by omega), regIdx_eq (Nat.sub_eq_of_eq_add' hc)]
  | unassigned hc => rcases hc with rfl | rfl <;> rfl
  | litInline hc hv => exact (operandDesc_literal_a t hc).trans (congrArg _ (Subtype.ext hv.symm))
  | literalInB hc => exact operandDesc_literal_b t hc
  | push | pop | peek | pick | sp | pc | ex | memAbs | litWord => rfl

/-- Every code has a row in each position. -/
theorem exists_codeMap (c : OperandCode) (t : Word) (pos : Pos) : ∃ d, CodeMap c t pos d := by
  have hrange : c.toNat ≤ 0x06 ∨ (0x07 ≤ c.toNat ∧ c.toNat ≤ 0x0D) ∨ (0x0E ≤ c.toNat ∧ c.toNat ≤ 0x15) ∨
      (c = 0x16 ∨ c = 0x17) ∨ c = 0x18 ∨ c = 0x19 ∨ c = 0x1A ∨ c = 0x1B ∨ c = 0x1C ∨ c = 0x1D ∨ c = 0x1E ∨
      c = 0x1F ∨ 0x20 ≤ c.toNat := by bv_omega
  rcases hrange with h | h | h | h | rfl | rfl | rfl | rfl | rfl | rfl | rfl | rfl | h
  · exact ⟨_, .reg (r := ⟨c.toNat, by omega⟩) rfl h⟩
  · exact ⟨_, .regInd (r := ⟨c.toNat - 0x07, by omega⟩) (by dsimp only; omega) (by dsimp only; omega)⟩
  · exact ⟨_, .regIndOff (r := ⟨c.toNat - 0x0E, by omega⟩) (by dsimp only; omega)⟩
  · exact ⟨_, .unassigned h⟩
  · cases pos
    · exact ⟨_, .push⟩
    · exact ⟨_, .pop⟩
  · exact ⟨_, .peek⟩
  · exact ⟨_, .pick⟩
  · exact ⟨_, .sp⟩
  · exact ⟨_, .pc⟩
  · exact ⟨_, .ex⟩
  · exact ⟨_, .memAbs⟩
  · exact ⟨_, .litWord⟩
  · cases pos
    · exact ⟨_, .literalInB h⟩
    · exact ⟨_, .litInline (v := inlineLit c h) h rfl⟩

theorem operandDesc_eq_iff {c : OperandCode} {t : Word} {pos : Pos} {d : Operand} :
    operandDesc c t pos = d ↔ CodeMap c t pos d := by
  refine ⟨fun h => ?_, operandDesc_of_codeMap⟩
  obtain ⟨d', hd'⟩ := exists_codeMap c t pos
  rwa [← h, operandDesc_of_codeMap hd']

theorem codeMap_operandDesc (c : OperandCode) (t : Word) (pos : Pos) : CodeMap c t pos (operandDesc c t pos) :=
  operandDesc_eq_iff.1 rfl

/-- R99: Pop is an operand of position a only. -/
theorem CodeMap.ne_pop_of_b {c : OperandCode} {t : Word} {d : Operand} (h : CodeMap c t .b d) : d ≠ .pop := by
  rintro rfl
  cases h

/-- R98: Push is an operand of position b only. -/
theorem CodeMap.ne_push_of_a {c : OperandCode} {t : Word} {d : Operand} (h : CodeMap c t .a d) : d ≠ .push := by
  rintro rfl
  cases h

/-- The operand holds a trailing word. -/
def Operand.holdsTrailingWord : Operand → Bool
  | .regIndOff _ _ | .pick _ | .memAbs _ | .litWord _ => true
  | _ => false

/-- R109: a code consumes exactly when its operand holds the trailing word. -/
theorem CodeMap.consumes_eq {c : OperandCode} {t : Word} {pos : Pos} {d : Operand} (h : CodeMap c t pos d) :
    consumes c = d.holdsTrailingWord := by
  cases h with
  | reg hc hr | regInd hc hr | litInline hc hv | literalInB hc =>
    simp only [consumes, Operand.holdsTrailingWord, Bool.or_eq_false_iff, Bool.and_eq_false_iff,
      decide_eq_false_iff_not, beq_eq_false_iff_ne]
    omega
  | @regIndOff _ _ _ r hc =>
    have hrange : 0x0E ≤ c.toNat ∧ c.toNat ≤ 0x15 := by omega
    simp [consumes, Operand.holdsTrailingWord, hrange]
  | unassigned hc => rcases hc with rfl | rfl <;> rfl
  | push | pop | peek | pick | sp | pc | ex | memAbs | litWord => rfl

/-- Both outputs of the operand decoder on a row of the map. -/
theorem CodeMap.od_eq {c : OperandCode} {t : Word} {pos : Pos} {d : Operand} (h : CodeMap c t pos d) :
    od c t pos = (d, d.holdsTrailingWord) :=
  Prod.ext (operandDesc_of_codeMap h) h.consumes_eq

end Sys2Proof.Machine
end

section
/-! PROOFS. The instruction decoder (R111 to R114) in terms of the code map: when it gives each recognized form. -/

namespace Sys2Proof.Machine

theorem binTable_zero : binTable 0 = none := rfl

/-- R114: a recognized binary instruction, operand b in position b and operand a in position a. -/
theorem idDecoded_eq_binary_iff {w t : Word} {op : Field5} {m : BinMnemonic} {b a : Operand} :
    idDecoded w t = .binary op m b a ↔ fxOp w = op ∧ binTable op = some m ∧
      CodeMap (zext6 (fxB w)) t .b b ∧ CodeMap (fxA w) t .a a := by
  rw [← operandDesc_eq_iff, ← operandDesc_eq_iff, idDecoded]
  split
  next hop =>
    constructor
    · intro h
      split at h <;> cases h
    · rintro ⟨rfl, hm, -⟩
      rw [hop, binTable_zero] at hm
      cases hm
  next =>
    constructor
    · intro h
      split at h
      next hm =>
        cases h
        exact ⟨rfl, hm, rfl, rfl⟩
      next => cases h
    · rintro ⟨rfl, hm, rfl, rfl⟩
      rw [hm]
      rfl

/-- R112: a recognized special instruction, its operand in position a. -/
theorem idDecoded_eq_special_iff {w t : Word} {sel : Field5} {m : SpecMnemonic} {a : Operand} :
    idDecoded w t = .special sel m a ↔ fxOp w = 0 ∧ fxB w = sel ∧ specTable sel = some m ∧
      CodeMap (fxA w) t .a a := by
  rw [← operandDesc_eq_iff, idDecoded]
  split
  next hop =>
    constructor
    · intro h
      split at h
      next hm =>
        cases h
        exact ⟨hop, rfl, hm, rfl⟩
      next => cases h
    · rintro ⟨-, rfl, hm, rfl⟩
      rw [hm]
      rfl
  next hop =>
    constructor
    · intro h
      split at h <;> cases h
    · rintro ⟨h0, -⟩
      exact absurd h0 hop

/-- R45: the code of operand b in an instruction word is below the literals. -/
theorem zext6_lt (bf : Field5) : (zext6 bf).toNat < 0x20 := by
  have hlt := bf.isLt
  simp only [zext6, BitVec.toNat_setWidth]
  omega

/-- R129: the anomaly of an operand names the cause it is unknown for. -/
theorem mem_operandAnomalies_literalInB {d : Operand} :
    Anomaly.literalInB ∈ operandAnomalies d ↔ ∃ c, d = .unknown c .literalInB := by
  cases d with
  | unknown c why => cases why <;> simp [operandAnomalies]
  | _ => simp [operandAnomalies]

/-- R108: below 0x20 no code is a literal in position b. -/
theorem CodeMap.literalInB_not_mem_b {c : OperandCode} {t : Word} {d : Operand} (hlt : c.toNat < 0x20)
    (h : CodeMap c t .b d) :
    Anomaly.literalInB ∉ operandAnomalies d := by
  rw [mem_operandAnomalies_literalInB]
  rintro ⟨c', rfl⟩
  cases h with
  | literalInB hc => exact absurd hlt (Nat.not_lt.2 hc)

/-- R107: in position a every code of 0x20 and above is a literal. -/
theorem CodeMap.literalInB_not_mem_a {c : OperandCode} {t : Word} {d : Operand} (h : CodeMap c t .a d) :
    Anomaly.literalInB ∉ operandAnomalies d := by
  rw [mem_operandAnomalies_literalInB]
  rintro ⟨c', rfl⟩
  cases h

end Sys2Proof.Machine
end

section
/-! PROOFS. The operand decoder's codes, rule by rule. -/

namespace Sys2Proof.Machine

/-- Settles O8: the three register rows of the code map, read forwards for the ranges and backwards for the
index 7. -/
theorem registerModesNameTheirRegister : Obligations.RegisterModesNameTheirRegister := by
  refine ⟨fun c t pos hc => ?_, fun c t pos hlo hhi => ?_, fun c t pos hlo hhi => ?_, fun c t pos => ?_,
    fun m => wordAt_of_le le_rfl, rfl⟩
  · replace hc : c.toNat ≤ 0x06 := hc
    exact ⟨⟨c.toNat, by omega⟩, rfl, (CodeMap.reg rfl hc).od_eq, rfl, fun _ => rfl⟩
  · replace hlo : 0x07 ≤ c.toNat := hlo
    replace hhi : c.toNat ≤ 0x0D := hhi
    have hrow : CodeMap c t pos (.regInd ⟨c.toNat - 0x07, by omega⟩) :=
      .regInd (Nat.add_sub_cancel' hlo).symm (Nat.sub_le_sub_right hhi 0x07)
    exact ⟨_, rfl, hrow.od_eq, rfl, fun _ => rfl⟩
  · replace hlo : 0x0E ≤ c.toNat := hlo
    replace hhi : c.toNat ≤ 0x15 := hhi
    have hrow : CodeMap c t pos (.regIndOff ⟨c.toNat - 0x0E, by omega⟩ t) :=
      .regIndOff (Nat.add_sub_cancel' hlo).symm
    exact ⟨_, rfl, hrow.od_eq, rfl, fun _ => rfl⟩
  · simp only [od_fst, ne_eq, operandDesc_eq_iff]
    refine ⟨?_, ?_, ?_, ?_⟩
    · intro h
      cases h with
      | reg hc hr => exact absurd hr (by decide)
    · intro h
      cases h with
      | regInd hc hr => exact absurd hr (by decide)
    · intro h
      cases h with
      | regIndOff hc => exact BitVec.eq_of_toNat_eq hc
    · rintro rfl
      exact .regIndOff rfl

/-- Settles O9: the row of R97 in both directions, and the two recognized forms of the instruction decoder, which
ask nothing of their operands. -/
theorem unassignedCodesAreUnknownOperands : Obligations.UnassignedCodesAreUnknownOperands := by
  refine ⟨fun c t pos hc => ?_, fun c c' t pos h => ?_, fun w t m hop hm => ?_, fun w t m hop hm => ?_, by decide⟩
  · rw [(CodeMap.unassigned (t := t) (pos := pos) hc).od_eq]
    exact ⟨rfl, rfl, fun _ => rfl⟩
  · cases operandDesc_eq_iff.1 h with
    | unassigned hc => exact ⟨rfl, hc⟩
  · exact ⟨_, _, idDecoded_eq_binary_iff.2 ⟨rfl, hm, codeMap_operandDesc .., codeMap_operandDesc ..⟩⟩
  · exact ⟨_, idDecoded_eq_special_iff.2 ⟨hop, rfl, hm, codeMap_operandDesc ..⟩⟩

/-- Settles O10: the stack rows of the code map name their position, and the instruction decoder puts operand b in
position b and operand a in position a. -/
theorem stackOperandsDependOnPosition : Obligations.StackOperandsDependOnPosition := by
  refine ⟨fun t => ⟨CodeMap.push.od_eq, CodeMap.pop.od_eq⟩, fun t pos => ⟨CodeMap.peek.od_eq, CodeMap.pick.od_eq⟩,
    fun t => ⟨rfl, rfl, rfl, rfl⟩, fun cfg hadm => hadm, fun w t op m b a h => ?_, fun w t sel m a h => ?_,
    fun t sel m hm => ?_⟩
  · obtain ⟨-, -, hb, ha⟩ := idDecoded_eq_binary_iff.1 h
    exact ⟨hb.ne_pop_of_b, ha.ne_push_of_a⟩
  · obtain ⟨-, -, -, ha⟩ := idDecoded_eq_special_iff.1 h
    exact ha.ne_push_of_a
  · rw [idDecoded_eq_special_iff, Laws.fxOp_packFields, Laws.fxB_packFields, Laws.fxA_packFields]
    exact ⟨rfl, rfl, hm, .pop⟩

/-- Settles O12: both rows hold the one trailing word the instruction decoder hands to both operands. -/
theorem memoryAndLiteralOperandsTakeTheTrailingWord : Obligations.MemoryAndLiteralOperandsTakeTheTrailingWord := by
  refine ⟨fun t pos => ⟨CodeMap.memAbs.od_eq, CodeMap.litWord.od_eq, rfl, rfl⟩, fun cfg t => ⟨rfl, rfl⟩,
    fun op m t hm => ?_, fun m hm => ?_⟩
  · rw [idDecoded_eq_binary_iff, Laws.fxOp_packFields, Laws.fxB_packFields, Laws.fxA_packFields]
    exact ⟨rfl, hm, .memAbs, .memAbs⟩
  · have hdec : idDecoded 0x7C01 0x0005 = .binary 0x01 m (.reg 0) (.litWord 0x0005) :=
      idDecoded_eq_binary_iff.2 ⟨rfl, hm, .reg rfl (by decide), .litWord⟩
    exact Prod.ext hdec rfl

/-- Settles O14: the row of R108, and every recognized form takes its operands from rows without that anomaly. -/
theorem literalCodeInPositionBIsUnknown : Obligations.LiteralCodeInPositionBIsUnknown := by
  refine ⟨fun c t hc => ?_, fun w t => ?_⟩
  · rw [(CodeMap.literalInB (t := t) hc).od_eq]
    exact ⟨rfl, rfl, fun _ => rfl⟩
  · cases hdec : idDecoded w t with
    | binary op m b a =>
      obtain ⟨-, -, hb, ha⟩ := idDecoded_eq_binary_iff.1 hdec
      simp [decodedAnomalies, hb.literalInB_not_mem_b (zext6_lt _), ha.literalInB_not_mem_a]
    | special sel m a =>
      obtain ⟨-, -, -, ha⟩ := idDecoded_eq_special_iff.1 hdec
      exact ha.literalInB_not_mem_a
    | unknownOpcode op => simp [decodedAnomalies]
    | unknownSpecial sel => simp [decodedAnomalies]

end Sys2Proof.Machine
end

section
/-! PROOFS. The recognized forms of the instruction decoder, with the examples of their rules. -/

namespace Sys2Proof.Machine

/-- R112: a selector of the special table decodes with operand a in position a. -/
theorem idDecoded_of_specTable {w : Word} {m : SpecMnemonic} (t : Word) (hop : fxOp w = 0)
    (hm : specTable (fxB w) = some m) : idDecoded w t = .special (fxB w) m (od (fxA w) t .a).1 :=
  idDecoded_eq_special_iff.2 ⟨hop, rfl, hm, codeMap_operandDesc ..⟩

/-- R114: an opcode of the binary table decodes with each operand in its own position; opcode 0 is not in the
table. -/
theorem idDecoded_of_binTable {w : Word} {m : BinMnemonic} (t : Word) (hm : binTable (fxOp w) = some m) :
    idDecoded w t = .binary (fxOp w) m (od (zext6 (fxB w)) t .b).1 (od (fxA w) t .a).1 :=
  idDecoded_eq_binary_iff.2 ⟨rfl, hm, codeMap_operandDesc .., codeMap_operandDesc ..⟩

@[simp] theorem renderOperand_unknown (cfg : TextConfig) (c : OperandCode) (why : UnknownCause) :
    renderOperand cfg (.unknown c why) = cfg.unknownOperand := rfl

/-- Settles O16: the two recognized forms, the rows of the code map for the operands of each example, and the
equations of the text. -/
theorem recognizedFormsDecodeTheirOperands : Obligations.RecognizedFormsDecodeTheirOperands := by
  refine ⟨fun w t m hop hm => idDecoded_of_specTable t hop hm, fun w t m _ hm => idDecoded_of_binTable t hm,
    fun m hm => ?_, fun t m hm => ?_, render_special, render_binary, renderOperand_unknown⟩
  · have hdec : idDecoded 0x7C20 0x0020 = .special 0x01 m (.litWord 0x0020) :=
      idDecoded_eq_special_iff.2 ⟨rfl, rfl, hm, .litWord⟩
    exact Prod.ext hdec rfl
  · have hdec : idDecoded 0x8401 t = .binary 0x01 m (.reg 0) (.litInline ⟨0, by decide⟩) :=
      idDecoded_eq_binary_iff.2 ⟨rfl, hm, .reg rfl (by decide), .litInline (by decide) rfl⟩
    exact Prod.ext hdec rfl

end Sys2Proof.Machine
end

section
/-! PROOFS. The step over the instruction decoder (R121): `exec` has one arm per row, and the arm the decoder picks
emits the line of ID and advances by its length, whatever the instruction (R127). -/

namespace Sys2Proof.Machine

/-- R56: each of the 32 selectors runs the arm its table entry names, or the placeholder arm. -/
theorem exec_decodeSpecial (sel : Field5) (a : OperandCode) (s : State) :
    exec (decodeSpecial sel a) s =
      (specTable sel).elim (emitUnknownSpecial sel a s) fun m => emitSpecial sel m a s := by
  fin_cases sel <;> rfl

theorem decodeFields_zero (bf : Field5) (a : OperandCode) : decodeFields 0 bf a = decodeSpecial bf a := rfl

/-- R55: each of the 31 opcodes of the binary form runs the arm its table entry names, or the placeholder arm. -/
theorem exec_decodeFields {op : Field5} (hop : op ≠ 0) (bf : Field5) (a : OperandCode) (s : State) :
    exec (decodeFields op bf a) s =
      (binTable op).elim (emitUnknownOpcode op (zext6 bf) a s) fun m => emitBinary op m (zext6 bf) a s := by
  fin_cases op
  · exact absurd rfl hop
  all_goals rfl

/-- R111, R121: running the instruction of a word emits the line ID gives for it and its trailing word. -/
theorem exec_decode (w : Word) (s : State) :
    exec (decode w) s = .next (emitLine (idDecoded w (trailingWord s)) (wordLen w) s) := by
  by_cases hop : fxOp w = 0
  · rw [decode, hop, decodeFields_zero, exec_decodeSpecial, idDecoded, wordLen, if_pos hop, if_pos hop]
    cases specTable (fxB w) <;> rfl
  · rw [decode, exec_decodeFields hop, idDecoded, wordLen, if_neg hop, if_neg hop]
    cases binTable (fxOp w) <;> rfl

/-- R121: the step of a machine that is not done. -/
theorem step_of_not_done {s : State} (h : s.cursor < s.words.n) :
    step s = .next (emitLine (idDecoded (instrWord s) (trailingWord s)) (wordLen (instrWord s)) s) := by
  rw [step, not_done_iff.2 h, if_neg Bool.false_ne_true, exec_decode]

/-- Settles O32: every decoded instruction takes the same step, and its line moves the cursor by the word's length. -/
theorem onlyControlTransferIsTheLength : Obligations.OnlyControlTransferIsTheLength :=
  fun s h => ⟨_, step_of_not_done h, emitLine_cursor _ (wordLen (instrWord s)) s⟩

end Sys2Proof.Machine
end

section
/-! PROOFS. The anomalies of a decoded word (R129, R132): what each operand code carries, then each form. -/

namespace Sys2Proof.Machine

/-- R45: zero-extension keeps the two unassigned codes (R97) apart from every other code of operand b. -/
theorem zext6_unassigned_iff (bf : Field5) :
    (zext6 bf = 0x16#6 ∨ zext6 bf = 0x17#6) ↔ (bf = 0x16#5 ∨ bf = 0x17#5) := by
  unfold zext6
  bv_omega

/-- An operand with an assigned code that is no literal in b is a known one. -/
theorem CodeMap.operandAnomalies_eq_nil {c : OperandCode} {t : Word} {pos : Pos} {d : Operand}
    (h : CodeMap c t pos d) (hcode : ¬ (c = 0x16#6 ∨ c = 0x17#6)) (hlit : Anomaly.literalInB ∉ operandAnomalies d) :
    operandAnomalies d = [] := by
  cases h with
  | unassigned hc => exact absurd hc hcode
  | literalInB hc => exact absurd (List.mem_singleton_self _) hlit
  | _ => rfl

/-- R97, R129: where no literal in b can stand, the code alone says which anomaly the operand carries. -/
theorem CodeMap.operandAnomalies_eq {c : OperandCode} {t : Word} {pos : Pos} {d : Operand}
    (h : CodeMap c t pos d) (hlit : Anomaly.literalInB ∉ operandAnomalies d) :
    operandAnomalies d = if c = 0x16#6 ∨ c = 0x17#6 then [.unassignedOperand] else [] := by
  split
  next hcode =>
    rw [← operandDesc_of_codeMap h, operandDesc_of_codeMap (.unassigned hcode)]
    rfl
  next hcode => exact h.operandAnomalies_eq_nil hcode hlit

theorem operandAnomalies_a (c : OperandCode) (t : Word) :
    operandAnomalies (od c t .a).1 = if c = 0x16#6 ∨ c = 0x17#6 then [.unassignedOperand] else [] :=
  (codeMap_operandDesc c t .a).operandAnomalies_eq (codeMap_operandDesc c t .a).literalInB_not_mem_a

/-- The b field of an instruction word cannot deliver a literal (R45, R108). -/
theorem operandAnomalies_b (bf : Field5) (t : Word) :
    operandAnomalies (od (zext6 bf) t .b).1 = if bf = 0x16#5 ∨ bf = 0x17#5 then [.unassignedOperand] else [] := by
  have hrow := codeMap_operandDesc (zext6 bf) t .b
  have hanom := hrow.operandAnomalies_eq (hrow.literalInB_not_mem_b (zext6_lt bf))
  simp only [zext6_unassigned_iff] at hanom
  exact hanom

/-- R113: a selector missing from the special table. -/
theorem idDecoded_of_specTable_none {w : Word} (t : Word) (hop : fxOp w = 0) (hm : specTable (fxB w) = none) :
    idDecoded w t = .unknownSpecial (fxB w) := by
  rw [idDecoded, if_pos hop, hm]

/-- R115: an opcode of the binary form missing from the binary table. -/
theorem idDecoded_of_binTable_none {w : Word} (t : Word) (hop : fxOp w ≠ 0) (hm : binTable (fxOp w) = none) :
    idDecoded w t = .unknownOpcode (fxOp w) := by
  rw [idDecoded, if_neg hop, hm]

@[simp] theorem decodedAnomalies_unknownOpcode (op : Field5) :
    decodedAnomalies (.unknownOpcode op) = [.unknownOpcode] := rfl

@[simp] theorem decodedAnomalies_unknownSpecial (sel : Field5) :
    decodedAnomalies (.unknownSpecial sel) = [.unknownSpecial] := rfl

@[simp] theorem decodedAnomalies_binary (op : Field5) (m : BinMnemonic) (b a : Operand) :
    decodedAnomalies (.binary op m b a) = operandAnomalies b ++ operandAnomalies a := rfl

@[simp] theorem decodedAnomalies_special (sel : Field5) (m : SpecMnemonic) (a : Operand) :
    decodedAnomalies (.special sel m a) = operandAnomalies a := rfl

/-- R132, the special form. -/
theorem decodedAnomalies_of_specialForm {w : Word} (t : Word) (hop : fxOp w = 0) :
    decodedAnomalies (idDecoded w t) =
      if specTable (fxB w) = none then [.unknownSpecial]
      else if fxA w = 0x16#6 ∨ fxA w = 0x17#6 then [.unassignedOperand] else [] := by
  cases hm : specTable (fxB w) with
  | none => rw [idDecoded_of_specTable_none t hop hm, if_pos rfl, decodedAnomalies_unknownSpecial]
  | some m =>
    rw [idDecoded_of_specTable t hop hm, if_neg (Option.some_ne_none m), decodedAnomalies_special, operandAnomalies_a]

/-- R132, the binary form: b before a. -/
theorem decodedAnomalies_of_binaryForm {w : Word} (t : Word) (hop : fxOp w ≠ 0) :
    decodedAnomalies (idDecoded w t) =
      if binTable (fxOp w) = none then [.unknownOpcode]
      else (if fxB w = 0x16#5 ∨ fxB w = 0x17#5 then [.unassignedOperand] else []) ++
        (if fxA w = 0x16#6 ∨ fxA w = 0x17#6 then [.unassignedOperand] else []) := by
  cases hm : binTable (fxOp w) with
  | none => rw [idDecoded_of_binTable_none t hop hm, if_pos rfl, decodedAnomalies_unknownOpcode]
  | some m =>
    rw [idDecoded_of_binTable t hm, if_neg (Option.some_ne_none m), decodedAnomalies_binary, operandAnomalies_b,
      operandAnomalies_a]

/-- Settles O20: the two forms of a word, each recognized or not; a sequence's anomalies are gathered line by line. -/
theorem anomaliesOfEveryWordInOrder : Obligations.AnomaliesOfEveryWordInOrder := by
  refine ⟨fun w t => ?_, fun l ls => ?_⟩
  · split
    next hop => exact decodedAnomalies_of_specialForm t hop
    next hop => exact decodedAnomalies_of_binaryForm t hop
  · rw [List.flatMap_append, List.flatMap_singleton, lineAnomalies]

end Sys2Proof.Machine
end

section
/-! PROOFS. No fault, no refusal, no jump (R128): every instruction of all 63 rows emits one line and moves on. -/

namespace Sys2Proof.Machine

/-- Everything an instruction can do, well formed or not: each row's meaning is one of the four emitting shapes. -/
theorem exec_eq_next_emitLine (i : Instr) (s : State) : ∃ d len, exec i s = .next (emitLine d len s) := by
  cases i <;> exact ⟨_, _, rfl⟩

/-- Everything a step can do: hold the state at the end (R137), emit one line before it (R121). -/
theorem step_cases (s : State) :
    (s.words.n ≤ s.cursor ∧ step s = .next s) ∨
      (s.cursor < s.words.n ∧ ∃ d len, step s = .next (emitLine d len s)) := by
  rcases Nat.lt_or_ge s.cursor s.words.n with h | h
  · exact .inr ⟨h, _, _, step_of_not_done h⟩
  · exact .inl ⟨h, step_of_done h⟩

theorem next_ne_fault_refused {r : Result} {s' : State} (h : r = .next s') :
    (∀ f, r ≠ .fault f) ∧ ∀ ρ, r ≠ .refused ρ := by
  subst h
  exact ⟨nofun, nofun⟩

/-- R119: the cursor moves one or two words on. -/
theorem emitLine_cursor_one_or_two (d : Decoded) (len : Len) (s : State) :
    (emitLine d len s).cursor = s.cursor + 1 ∨ (emitLine d len s).cursor = s.cursor + 2 := by
  cases len with
  | one => exact .inl rfl
  | two => exact .inr rfl

/-- Settles O33: a step or an instruction answers a next state in every case, and the one of a step before the end
is that of emitting a line. -/
theorem noInputMakesTheBlockFailOrJump : Obligations.NoInputMakesTheBlockFailOrJump := by
  refine ⟨fun s => ?_, fun i s => ?_, fun s h => ?_⟩
  · obtain ⟨-, hhold⟩ | ⟨-, d, len, hemit⟩ := step_cases s
    · exact next_ne_fault_refused hhold
    · exact next_ne_fault_refused hemit
  · obtain ⟨d, len, hexec⟩ := exec_eq_next_emitLine i s
    exact next_ne_fault_refused hexec
  · exact ⟨_, _, step_of_not_done h, emitLine_out .., emitLine_cursor_one_or_two ..⟩

end Sys2Proof.Machine
end

section
/-! PROOFS. Encoding and decoding (R42 to R45): each undoes the other, and a step runs the instruction of its word. -/

namespace Sys2Proof.Machine

@[simp] theorem decode_packFields (op bf : Field5) (a : OperandCode) :
    decode (packFields op bf a) = decodeFields op bf a := by
  rw [decode, Laws.fxOp_packFields, Laws.fxB_packFields, Laws.fxA_packFields]

/-- A binary row decodes its own word back: b's code passes through the 5-bit field when it fits there (R45). -/
theorem decode_packBinary {op : Field5} {row : OperandCode → OperandCode → Instr} {b a : OperandCode}
    (hrow : ∀ bf a, decodeFields op bf a = row (zext6 bf) a) (hb : bCodeOk b = true) :
    decode (packBinary op b a) = row b a := by
  rw [packBinary, decode_packFields, hrow, Laws.zext6_setWidth hb]

theorem decode_packSpecial (sel : Field5) (a : OperandCode) : decode (packSpecial sel a) = decodeSpecial sel a := by
  rw [packSpecial, decode_packFields, decodeFields_zero]

/-- Settles O3: a binary row through `decode_packBinary`, where well-formedness bounds b's code; a special row by its
selector's arm. -/
theorem decodeOfEncodeIsTheInstruction : Obligations.DecodeOfEncodeIsTheInstruction := by
  intro i hwf
  cases i with
  | set b a | add b a | sub b a | mul b a | mli b a | div b a | dvi b a | mod b a | mdi b a | and b a | bor b a
  | xor b a | shr b a | asr b a | shl b a | ifb b a | ifc b a | ife b a | ifn b a | ifg b a | ifa b a | ifl b a
  | ifu b a | adx b a | sbx b a | sti b a | std b a | reservedOp18 b a | reservedOp19 b a | reservedOp1C b a
  | reservedOp1D b a => exact decode_packBinary (fun _ _ => rfl) hwf
  | _ => exact decode_packSpecial _ _

@[simp] theorem setWidth_zext6 (bf : Field5) : (zext6 bf).setWidth 5 = bf := by
  unfold zext6
  bv_omega

theorem bCodeOk_zext6 (bf : Field5) : bCodeOk (zext6 bf) = true := decide_eq_true (zext6_lt bf)

theorem encode_decodeSpecial (sel : Field5) (a : OperandCode) :
    encode (decodeSpecial sel a) = packSpecial sel a := by
  fin_cases sel <;> rfl

theorem encode_decodeFields {op : Field5} (hop : op ≠ 0) (bf : Field5) (a : OperandCode) :
    encode (decodeFields op bf a) = packBinary op (zext6 bf) a := by
  fin_cases op
  · exact absurd rfl hop
  all_goals rfl

theorem wellFormed_decodeSpecial (sel : Field5) (a : OperandCode) : WellFormed (decodeSpecial sel a) := by
  fin_cases sel <;> rfl

/-- R45: in the binary form the check is that of the b code, which the 5-bit field delivered. -/
theorem wellFormed_decodeFields {op : Field5} (hop : op ≠ 0) (bf : Field5) (a : OperandCode) :
    WellFormed (decodeFields op bf a) := by
  fin_cases op
  · exact absurd rfl hop
  all_goals exact bCodeOk_zext6 bf

theorem wellFormed_decode (w : Word) : WellFormed (decode w) := by
  by_cases hop : fxOp w = 0
  · rw [decode, hop, decodeFields_zero]
    exact wellFormed_decodeSpecial _ _
  · exact wellFormed_decodeFields hop _ _

/-- The encoder packs the fields the decoder took the word apart into. -/
theorem encode_decode (w : Word) : encode (decode w) = w := by
  by_cases hop : fxOp w = 0
  · calc encode (decode w) = packFields 0 (fxB w) (fxA w) := by
          rw [decode, hop, decodeFields_zero, encode_decodeSpecial, packSpecial]
      _ = w := by rw [← hop, Laws.packFields_fields]
  · rw [decode, encode_decodeFields hop, packBinary, setWidth_zext6, Laws.packFields_fields]

/-- Settles O4: both parts by the form of the word. -/
theorem encodeOfDecodeIsTheWord : Obligations.EncodeOfDecodeIsTheWord :=
  fun w => ⟨wellFormed_decode w, encode_decode w⟩

/-- Settles O5: the example words, by evaluating the decoder on each. -/
theorem writtenWordsDecode : Obligations.WrittenWordsDecode := by
  unfold Obligations.WrittenWordsDecode
  decide

theorem step_eq_exec_decode {s : State} (h : s.cursor < s.words.n) : step s = exec (decode (instrWord s)) s := by
  rw [step, not_done_iff.2 h, if_neg Bool.false_ne_true]

/-- Settles O29: a step is `exec` of the decoded word, and an encoded word decodes to its instruction (O3). -/
theorem stepRunsTheDecodedInstruction : Obligations.StepRunsTheDecodedInstruction := by
  refine ⟨fun s i h hi => ?_, fun s i h hwf hw => ?_⟩
  · subst hi
    exact ⟨wellFormed_decode _, step_eq_exec_decode h⟩
  · rw [step_eq_exec_decode h, instrWord, hw, decodeOfEncodeIsTheInstruction i hwf]

end Sys2Proof.Machine
end

section
/-! PROOFS. The length of an instruction (R119) and the trailing word (R48, R50): which operand codes take it, and
that nothing else depends on it. -/

namespace Sys2Proof.Machine

theorem lenSpecial_eq (a : OperandCode) : lenSpecial a = if consumes a = true then .two else .one := rfl

theorem lenBinary_eq (b a : OperandCode) :
    lenBinary b a = if consumes b = true ∨ consumes a = true then .two else .one := by
  simp only [lenBinary, Bool.or_eq_true]

theorem words_ite (p : Prop) [Decidable p] : (if p then Len.two else Len.one).words = if p then 2 else 1 :=
  apply_ite Len.words p .two .one

theorem wordLen_of_specialForm {w : Word} (hop : fxOp w = 0) : wordLen w = lenSpecial (fxA w) := if_pos hop

theorem wordLen_of_binaryForm {w : Word} (hop : fxOp w ≠ 0) : wordLen w = lenBinary (zext6 (fxB w)) (fxA w) :=
  if_neg hop

theorem lenSpecial_eq_one_iff {a : OperandCode} : lenSpecial a = .one ↔ consumes a = false := by
  cases hc : consumes a <;> simp [lenSpecial, hc]

theorem lenBinary_eq_one_iff {b a : OperandCode} :
    lenBinary b a = .one ↔ consumes b = false ∧ consumes a = false := by
  cases hb : consumes b <;> cases ha : consumes a <;> simp [lenBinary, hb, ha]

theorem lenBinary_eq_two_iff {b a : OperandCode} :
    lenBinary b a = .two ↔ consumes b = true ∨ consumes a = true := by
  rw [lenBinary_eq]
  split
  next h => exact iff_of_true rfl h
  next h => exact iff_of_false nofun h

/-- R119, D5: opcodes and selectors do not count. -/
theorem wordLen_congr {w w' : Word} (h : Expected.SameFormAndCodes w w') : wordLen w = wordLen w' := by
  obtain ⟨hop, hop', hb, ha⟩ | ⟨hop, hop', ha⟩ := h
  · rw [wordLen_of_binaryForm hop, wordLen_of_binaryForm hop', hb, ha]
  · rw [wordLen_of_specialForm hop, wordLen_of_specialForm hop', ha]

/-- An operand that holds no trailing word is the same for every other. -/
theorem CodeMap.of_not_consumes {c : OperandCode} {t : Word} {pos : Pos} {d : Operand} (h : CodeMap c t pos d)
    (hc : consumes c = false) (t' : Word) : CodeMap c t' pos d := by
  have hd : d.holdsTrailingWord = false := h.consumes_eq.symm.trans hc
  cases h with
  | reg hc hr => exact .reg hc hr
  | regInd hc hr => exact .regInd hc hr
  | unassigned hc => exact .unassigned hc
  | push => exact .push
  | pop => exact .pop
  | peek => exact .peek
  | sp => exact .sp
  | pc => exact .pc
  | ex => exact .ex
  | litInline hc hv => exact .litInline hc hv
  | literalInB hc => exact .literalInB hc
  | regIndOff | pick | memAbs | litWord => cases hd

/-- An operand that holds its trailing word shows which one it was. -/
theorem CodeMap.trailingWord_unique {c : OperandCode} {t t' : Word} {pos : Pos} {d : Operand} (h : CodeMap c t pos d)
    (h' : CodeMap c t' pos d) (hd : d.holdsTrailingWord = true) : t = t' := by
  cases h with
  | regIndOff => cases h'; rfl
  | pick => cases h'; rfl
  | memAbs => cases h'; rfl
  | litWord => cases h'; rfl
  | _ => cases hd

theorem operandDesc_of_not_consumes {c : OperandCode} (hc : consumes c = false) (t t' : Word) (pos : Pos) :
    operandDesc c t pos = operandDesc c t' pos :=
  operandDesc_eq_iff.2 ((codeMap_operandDesc c t' pos).of_not_consumes hc t)

theorem operandDesc_injective_of_consumes {c : OperandCode} (hc : consumes c = true) {t t' : Word} {pos : Pos}
    (h : operandDesc c t pos = operandDesc c t' pos) : t = t' :=
  have hrow := codeMap_operandDesc c t' pos
  (operandDesc_eq_iff.1 h).trailingWord_unique hrow (hrow.consumes_eq.symm.trans hc)

/-- R98, R99, R107, R108: the rows of the code map that name no position serve both. -/
theorem CodeMap.a_of_b {c : OperandCode} {t : Word} {d : Operand} (h : CodeMap c t .b d) (hstack : c ≠ 0x18)
    (hlit : c.toNat < 0x20) : CodeMap c t .a d := by
  cases h with
  | reg hc hr => exact .reg hc hr
  | regInd hc hr => exact .regInd hc hr
  | regIndOff hc => exact .regIndOff hc
  | unassigned hc => exact .unassigned hc
  | push => exact absurd rfl hstack
  | peek => exact .peek
  | pick => exact .pick
  | sp => exact .sp
  | pc => exact .pc
  | ex => exact .ex
  | memAbs => exact .memAbs
  | litWord => exact .litWord
  | literalInB hc => exact absurd hlit (Nat.not_lt.2 hc)

/-- Settles O15: by the rows of the code map; a code that holds its trailing word shows it, the others ignore it. -/
theorem positionAndTrailingWordMatterOnlyWhere : Obligations.PositionAndTrailingWordMatterOnlyWhere := by
  refine ⟨fun c t => ⟨?_, fun hcode => ?_⟩, fun c t t' pos hne => ⟨fun h => ?_, fun hc => ?_⟩⟩
  · rintro h (rfl | hlit)
    · have hdesc := congrArg Prod.fst (CodeMap.push.od_eq.symm.trans (h.trans CodeMap.pop.od_eq))
      cases hdesc
    · have hlit' : 0x20 ≤ c.toNat := hlit
      have hdesc := congrArg Prod.fst h
      rw [od_fst, od_fst, operandDesc_literal_a t hlit', operandDesc_literal_b t hlit'] at hdesc
      cases hdesc
  · obtain ⟨hstack, hlit⟩ := not_or.1 hcode
    have hdesc := (codeMap_operandDesc c t .b).a_of_b hstack (Nat.not_le.1 hlit)
    exact Prod.ext (operandDesc_eq_iff.2 hdesc).symm rfl
  · by_contra hc
    exact hne (operandDesc_injective_of_consumes (Bool.eq_true_of_not_eq_false hc) (congrArg Prod.fst h))
  · exact Prod.ext (operandDesc_of_not_consumes hc t t' pos) rfl

/-- R50: a word of length one decodes the same whatever follows it. -/
theorem idDecoded_of_wordLen_one {w : Word} (hlen : wordLen w = .one) (t t' : Word) :
    idDecoded w t = idDecoded w t' := by
  by_cases hop : fxOp w = 0
  · rw [wordLen_of_specialForm hop, lenSpecial_eq_one_iff] at hlen
    rw [idDecoded, idDecoded, if_pos hop, if_pos hop, od_fst, od_fst, operandDesc_of_not_consumes hlen t t']
  · rw [wordLen_of_binaryForm hop, lenBinary_eq_one_iff] at hlen
    obtain ⟨hb, ha⟩ := hlen
    rw [idDecoded, idDecoded, if_neg hop, if_neg hop, od_fst, od_fst, od_fst, od_fst,
      operandDesc_of_not_consumes hb t t', operandDesc_of_not_consumes ha t t']

/-- D5: an unrecognized instruction shows no operand, so its trailing word does not reach it. -/
theorem idDecoded_of_unrecognized {w t : Word} {k : Field5}
    (h : idDecoded w t = .unknownOpcode k ∨ idDecoded w t = .unknownSpecial k) (t' : Word) :
    idDecoded w t' = idDecoded w t := by
  by_cases hop : fxOp w = 0
  · cases hm : specTable (fxB w) with
    | none => rw [idDecoded_of_specTable_none t hop hm, idDecoded_of_specTable_none t' hop hm]
    | some m => simp [idDecoded_of_specTable t hop hm] at h
  · cases hm : binTable (fxOp w) with
    | none => rw [idDecoded_of_binTable_none t hop hm, idDecoded_of_binTable_none t' hop hm]
    | some m => simp [idDecoded_of_binTable t hm] at h

/-- Settles O19: the length is of the word alone; its decoded value by the two lemmas before this. -/
theorem decodedValueIgnoresAnUnconsumedTrailingWord : Obligations.DecodedValueIgnoresAnUnconsumedTrailingWord :=
  ⟨fun _ t t' hlen => Prod.ext (idDecoded_of_wordLen_one hlen t t') rfl,
    fun _ _ t' _ h => Prod.ext (idDecoded_of_unrecognized h t') rfl⟩

theorem ne_zero_of_binTable {op : Field5} {m : BinMnemonic} (hm : binTable op = some m) : op ≠ 0 := by
  rintro rfl
  cases hm

/-- Settles O18: the decoded form fixes the opcode field, and with it the length formula; `consumed` is the predicate
in that formula. -/
theorem lengthAgreesWithTheDecodedOperands : Obligations.LengthAgreesWithTheDecodedOperands := by
  refine fun w t => ⟨fun op m b a h => ?_, fun sel m a h => ?_⟩
  · obtain ⟨rfl, hm, -⟩ := idDecoded_eq_binary_iff.1 h
    rw [wordLen_of_binaryForm (ne_zero_of_binTable hm), lenBinary_eq, words_ite, od_snd, od_snd]
    split <;> rfl
  · obtain ⟨hop, -⟩ := idDecoded_eq_special_iff.1 h
    rw [wordLen_of_specialForm hop, lenSpecial_eq, words_ite, od_snd]
    split <;> rfl

/-- R48, the predicate as ranges of codes. -/
theorem consumes_iff (c : OperandCode) : consumes c = true ↔
    (0x0E#6 ≤ c ∧ c ≤ 0x15#6) ∨ c = 0x1A#6 ∨ c = 0x1E#6 ∨ c = 0x1F#6 := by
  simp [consumes, BitVec.le_def, BitVec.toNat_eq, or_assoc]

theorem holdsTrailingWord_iff {c : OperandCode} {t : Word} {pos : Pos} {d : Operand} (h : CodeMap c t pos d) :
    d.holdsTrailingWord = true ↔
      (∃ r, d = .regIndOff r t) ∨ d = .pick t ∨ d = .memAbs t ∨ d = .litWord t := by
  cases h <;> simp [Operand.holdsTrailingWord]

/-- Settles O6: the predicate as ranges, its count by evaluation, the operand decoder through the code map, and the
length of the binary form. -/
theorem consumingCodesAreElevenAndAgree : Obligations.ConsumingCodesAreElevenAndAgree := by
  refine ⟨consumes_iff, by decide, fun c t pos => ⟨rfl, ?_⟩, fun w hop => ?_⟩
  · have hrow := codeMap_operandDesc c t pos
    rw [od_snd, od_fst, hrow.consumes_eq]
    exact holdsTrailingWord_iff hrow
  · rw [wordLen_of_binaryForm hop, lenBinary_eq_two_iff]

/-- Settles O17: the missing table entry gives the placeholder, the length is the field formula. -/
theorem unrecognizedFormsKeepTheirCodeAndLength : Obligations.UnrecognizedFormsKeepTheirCodeAndLength := by
  refine ⟨fun w t hop hm => Prod.ext (idDecoded_of_specTable_none t hop hm) ?_,
    fun w t hop hm => Prod.ext (idDecoded_of_binTable_none t hop hm) ?_⟩
  · exact (wordLen_of_specialForm hop).trans (lenSpecial_eq _)
  · exact (wordLen_of_binaryForm hop).trans (lenBinary_eq _ _)

end Sys2Proof.Machine
end

section
/-! PROOFS. The rows of the opcode tables (R57 to R92, R113, R115): encoding, table entry, complete next state. -/

namespace Sys2Proof.Machine

theorem emitBinary_eq (op : Field5) (m : BinMnemonic) (b a : OperandCode) (s : State) :
    emitBinary op m b a s = .next (Expected.binary op m b a s) := by
  simp only [emitBinary, emitLine, Expected.binary, trailingWord, setCursor, emit, lenBinary_eq, words_ite]

theorem emitSpecial_eq (sel : Field5) (m : SpecMnemonic) (a : OperandCode) (s : State) :
    emitSpecial sel m a s = .next (Expected.special sel m a s) := by
  simp only [emitSpecial, emitLine, Expected.special, trailingWord, setCursor, emit, lenSpecial_eq, words_ite]

/-- A binary row, from the arm its opcode decodes to, its table entry and its meaning. -/
theorem binaryRow_intro {op : Field5} {m : BinMnemonic} {row : OperandCode → OperandCode → Instr}
    (hdec : ∀ bf a, decodeFields op bf a = row (zext6 bf) a) (htab : binTable op = some m)
    (hexec : ∀ b a s, exec (row b a) s = emitBinary op m b a s) : Expected.BinaryRow op m row :=
  ⟨fun bf a => (decode_packFields op bf a).trans (hdec bf a), htab,
    fun b a s => (hexec b a s).trans (emitBinary_eq op m b a s)⟩

theorem specialRow_intro {sel : Field5} {m : SpecMnemonic} {row : OperandCode → Instr}
    (hdec : ∀ a, decodeSpecial sel a = row a) (htab : specTable sel = some m)
    (hexec : ∀ a s, exec (row a) s = emitSpecial sel m a s) : Expected.SpecialRow sel m row :=
  ⟨fun a => (decode_packSpecial sel a).trans (hdec a), htab,
    fun a s => (hexec a s).trans (emitSpecial_eq sel m a s)⟩

theorem reservedOpcodeRow_intro {op : Field5} {row : OperandCode → OperandCode → Instr}
    (hdec : ∀ bf a, decodeFields op bf a = row (zext6 bf) a) (htab : binTable op = none)
    (hexec : ∀ b a s, exec (row b a) s = emitUnknownOpcode op b a s) : Expected.ReservedOpcodeRow op row := by
  refine ⟨fun bf a => (decode_packFields op bf a).trans (hdec bf a), htab, fun b a s => (hexec b a s).trans ?_⟩
  simp only [emitUnknownOpcode, emitLine, setCursor, emit, lenBinary_eq, words_ite]

theorem reservedSelectorRow_intro {sel : Field5} {row : OperandCode → Instr}
    (hdec : ∀ a, decodeSpecial sel a = row a) (htab : specTable sel = none)
    (hexec : ∀ a s, exec (row a) s = emitUnknownSpecial sel a s) : Expected.ReservedSelectorRow sel row := by
  refine ⟨fun a => (decode_packSpecial sel a).trans (hdec a), htab, fun a s => (hexec a s).trans ?_⟩
  simp only [emitUnknownSpecial, emitLine, setCursor, emit, lenSpecial_eq, words_ite]

/-- Settles O22: for each row its arm of the decoder, its entry of the table and its arm of `exec`. -/
theorem moveAndArithmeticRowsEmitTheirLine : Obligations.MoveAndArithmeticRowsEmitTheirLine := by
  refine ⟨?_, ?_, ?_, ?_, ?_, ?_, ?_, ?_, ?_⟩ <;> exact binaryRow_intro (fun _ _ => rfl) rfl fun _ _ _ => rfl

/-- Settles O23, as O22. -/
theorem logicAndShiftRowsEmitTheirLine : Obligations.LogicAndShiftRowsEmitTheirLine := by
  refine ⟨?_, ?_, ?_, ?_, ?_, ?_⟩ <;> exact binaryRow_intro (fun _ _ => rfl) rfl fun _ _ _ => rfl

/-- Settles O24, as O22: no conditional skips anything (R127). -/
theorem conditionalRowsEmitTheirLine : Obligations.ConditionalRowsEmitTheirLine := by
  refine ⟨?_, ?_, ?_, ?_, ?_, ?_, ?_, ?_⟩ <;> exact binaryRow_intro (fun _ _ => rfl) rfl fun _ _ _ => rfl

/-- Settles O25, as O22. -/
theorem extendedRowsEmitTheirLine : Obligations.ExtendedRowsEmitTheirLine := by
  refine ⟨?_, ?_, ?_, ?_⟩ <;> exact binaryRow_intro (fun _ _ => rfl) rfl fun _ _ _ => rfl

/-- Settles O26: the length asks operand a alone, so the device rows have no case of their own (D4). -/
theorem specialRowsEmitTheirLine : Obligations.SpecialRowsEmitTheirLine := by
  refine ⟨?_, ?_, ?_, ?_, ?_, ?_, ?_, ?_, ?_⟩ <;> exact specialRow_intro (fun _ => rfl) rfl fun _ _ => rfl

/-- Settles O27: as O22, with no table entry and the placeholder as the meaning. -/
theorem reservedOpcodeRowsEmitTheirPlaceholder : Obligations.ReservedOpcodeRowsEmitTheirPlaceholder := by
  refine ⟨?_, ?_, ?_, ?_⟩ <;> exact reservedOpcodeRow_intro (fun _ _ => rfl) rfl fun _ _ _ => rfl

/-- Settles O28: as O26, with no table entry and the placeholder as the meaning. -/
theorem reservedSelectorRowsEmitTheirPlaceholder : Obligations.ReservedSelectorRowsEmitTheirPlaceholder := by
  refine ⟨?_, ?_, ?_, ?_, ?_, ?_, ?_, ?_, ?_, ?_, ?_, ?_, ?_, ?_, ?_, ?_, ?_, ?_, ?_, ?_, ?_, ?_, ?_⟩ <;>
    exact reservedSelectorRow_intro (fun _ => rfl) rfl fun _ _ => rfl

end Sys2Proof.Machine
end

section
/-! PROOFS. The line at an index (R121) and what a step and an instruction do with the state. -/

namespace Sys2Proof.Machine

open Sys2Proof.Safety

/-- R121: the line a step with the cursor at `i` emits. -/
def lineAt (m : Memory) (i : Nat) : Line :=
  { addr := i, len := (idBlock (m.wordAt i) (m.wordAt (i + 1))).2, dec := (idBlock (m.wordAt i) (m.wordAt (i + 1))).1 }

@[simp] theorem lineAt_addr (m : Memory) (i : Nat) : (lineAt m i).addr = i := rfl
@[simp] theorem lineAt_len (m : Memory) (i : Nat) : (lineAt m i).len = wordLen (m.wordAt i) := rfl
@[simp] theorem lineAt_dec (m : Memory) (i : Nat) :
    (lineAt m i).dec = idDecoded (m.wordAt i) (m.wordAt (i + 1)) := rfl

/-- The condition on a line in the run invariant, as an equation. -/
theorem lineOk_iff {m : Memory} {l : Line} : LineOk m l ↔ l.addr < m.n ∧ l = lineAt m l.addr := by
  obtain ⟨i, len, dec⟩ := l
  simp only [LineOk, lineAt, Line.mk.injEq, Prod.ext_iff, true_and]
  constructor
  · rintro ⟨h, hdec, hlen⟩
    exact ⟨h, hlen.symm, hdec.symm⟩
  · rintro ⟨h, hlen, hdec⟩
    exact ⟨h, hdec.symm, hlen.symm⟩

/-- R50: a line depends on its own word and, where that word takes one, on the trailing word. -/
theorem lineAt_congr {m m' : Memory} {i : Nat} (hword : m.wordAt i = m'.wordAt i)
    (htrail : wordLen (m.wordAt i) = .two → m.wordAt (i + 1) = m'.wordAt (i + 1)) : lineAt m i = lineAt m' i := by
  have hdec : idDecoded (m.wordAt i) (m.wordAt (i + 1)) = idDecoded (m.wordAt i) (m'.wordAt (i + 1)) := by
    cases hlen : wordLen (m.wordAt i) with
    | one => exact idDecoded_of_wordLen_one hlen _ _
    | two => rw [htrail hlen]
  rw [lineAt, lineAt, idBlock, idBlock, hdec, hword]

/-- R121: the step before the end appends the line at the cursor and moves the cursor past it. -/
theorem step_eq_lineAt {s : State} (h : s.cursor < s.words.n) :
    step s = .next { s with
      cursor := s.cursor + (lineAt s.words s.cursor).len.words
      out := s.out ++ [lineAt s.words s.cursor] } :=
  step_of_not_done h

/-- Settles O30: the step over the line at the cursor, whose two words are the ones the sequencer reads, and the done
step. -/
theorem stepIsTheSequencerOverTheInstructionDecoder : Obligations.StepIsTheSequencerOverTheInstructionDecoder := by
  intro s
  rcases Nat.lt_or_ge s.cursor s.words.n with h | h
  · refine ⟨_, step_eq_lineAt h, fun _ w t hw ht => ?_, fun hdone => absurd h hdone⟩
    have ht' : t = s.words.wordAt (s.cursor + 1) := by
      split at ht
      next => exact ht
      next hend => exact ht.trans (wordAt_of_le (Nat.not_lt.1 hend)).symm
    subst hw ht'
    exact ⟨rfl, rfl⟩
  · exact ⟨s, step_of_done h, fun hlt => absurd h (Nat.not_le.2 hlt), fun _ => rfl⟩

/-- Settles O31: every instruction answers `emitLine` of some line. -/
theorem everyInstructionEmitsOneLineAndAdvances : Obligations.EveryInstructionEmitsOneLineAndAdvances := by
  intro i s
  obtain ⟨d, len, hexec⟩ := exec_eq_next_emitLine i s
  exact ⟨⟨s.cursor, len, d⟩, rfl, hexec⟩

/-- Settles O37: at the last index the trailing word is read past the end. -/
theorem truncatedLastInstructionReadsZero : Obligations.TruncatedLastInstructionReadsZero := by
  intro s hlast hlen
  have hline : lineAt s.words s.cursor = ⟨s.cursor, .two, idDecoded (s.words.wordAt s.cursor) 0x0000#16⟩ := by
    rw [lineAt, idBlock, hlen, wordAt_of_le hlast.ge]
  rw [step_eq_lineAt (by omega), hline, ← hlast]
  rfl

/-- Settles O38: the two states have the same line at the cursor. -/
theorem stepDependsOnTwoWordsOnly : Obligations.StepDependsOnTwoWordsOnly := by
  intro s₁ s₂ hcur h₁ h₂ hword htrail
  have hline : lineAt s₁.words s₁.cursor = lineAt s₂.words s₂.cursor := by
    rw [← hcur] at hword htrail ⊢
    exact lineAt_congr hword htrail
  refine ⟨lineAt s₁.words s₁.cursor, _, step_eq_lineAt h₁, ?_⟩
  rw [step_eq_lineAt h₂, hline, hcur]

/-- Settles O57: the length formula names the operand codes alone, and the line of a step spans the cursor's move. -/
theorem lengthIsOfTheFormAndOperandCodesAlone : Obligations.LengthIsOfTheFormAndOperandCodesAlone := by
  refine ⟨fun w w' hop hop' hb ha => wordLen_congr (.inl ⟨hop, hop', hb, ha⟩),
    fun w w' hop hop' ha => wordLen_congr (.inr ⟨hop, hop', ha⟩), fun s s' h hstep => ?_⟩
  cases (step_eq_lineAt h).symm.trans hstep
  exact ⟨lineAt s.words s.cursor, rfl, rfl, rfl⟩

end Sys2Proof.Machine
end

section
/-! PROOFS. Traces: lines laid end to end, each the line of its own index below `n`.  The run invariant is a trace from
index 0 to the cursor, every run of the machine and the function `runFrom` extend one, and the boundaries (R126) are
where its lines stand. -/

namespace Sys2Proof.Machine

open Sys2Proof.Safety

/-- The lines of a run of the sequencer over `m` from index `i` to index `j`. -/
inductive Trace (m : Memory) : Nat → List Line → Nat → Prop
  | nil (i : Nat) : Trace m i [] i
  | cons {i j : Nat} {ls : List Line} (hi : i < m.n) (tail : Trace m (i + (lineAt m i).len.words) ls j) :
      Trace m i (lineAt m i :: ls) j

/-- A trace is what the run invariant asks of the output. -/
theorem trace_iff {m : Memory} {i j : Nat} {ls : List Line} :
    Trace m i ls j ↔ chained i ls j = true ∧ ∀ l ∈ ls, LineOk m l := by
  constructor
  · intro h
    induction h with
    | nil i => simp [chained]
    | cons hi _ ih =>
      obtain ⟨hchain, hok⟩ := ih
      refine ⟨by simpa [chained] using hchain, List.forall_mem_cons.2 ⟨lineOk_iff.2 ⟨hi, rfl⟩, hok⟩⟩
  · rintro ⟨hchain, hok⟩
    induction ls generalizing i with
    | nil =>
      obtain rfl : i = j := by simpa [chained] using hchain
      exact .nil i
    | cons l ls ih =>
      obtain ⟨hl, hls⟩ := List.forall_mem_cons.1 hok
      obtain ⟨rfl, htail⟩ : l.addr = i ∧ chained (i + l.len.words) ls j = true := by simpa [chained] using hchain
      obtain ⟨hi, hline⟩ := lineOk_iff.1 hl
      rw [hline] at htail ⊢
      exact .cons hi (ih htail hls)

theorem runInv_iff {s : State} : RunInv s ↔ s.words.wf = true ∧ Trace s.words 0 s.out s.cursor := by
  rw [RunInv, trace_iff]

namespace Trace

variable {m : Memory} {i j : Nat} {ls : List Line}

theorem append {k : Nat} {ls' : List Line} (h : Trace m i ls j) (h' : Trace m j ls' k) :
    Trace m i (ls ++ ls') k := by
  induction h with
  | nil => exact h'
  | cons hi _ ih => exact .cons hi (ih h')

theorem snoc (h : Trace m i ls j) (hj : j < m.n) :
    Trace m i (ls ++ [lineAt m j]) (j + (lineAt m j).len.words) :=
  h.append (.cons hj (.nil _))

/-- Each line takes one word at least. -/
theorem add_length_le (h : Trace m i ls j) : i + ls.length ≤ j := by
  induction h with
  | nil i => exact le_rfl
  | @cons i _ _ _ _ ih =>
    have := Len.words_pos (lineAt m i).len
    rw [List.length_cons]
    omega

/-- A trace ends where it began, or right after its last line. -/
theorem end_cases (h : Trace m i ls j) :
    j = i ∨ ∃ p < m.n, ls.getLast? = some (lineAt m p) ∧ j = p + (lineAt m p).len.words := by
  induction h with
  | nil i => exact .inl rfl
  | @cons i j ls hi tail ih =>
    refine .inr ?_
    obtain rfl | ⟨p, hp, hlast, hend⟩ := ih
    · cases tail with
      | nil => exact ⟨i, hi, rfl, rfl⟩
      | cons _ tail' =>
        have := tail'.add_length_le
        have := Len.words_pos (lineAt m (i + (lineAt m i).len.words)).len
        omega
    · refine ⟨p, hp, ?_, hend⟩
      rw [List.getLast?_cons, hlast, Option.getD_some]

/-- The last line starts below `n` and is two words long at most. -/
theorem end_le (h : Trace m i ls j) (hi : i ≤ m.n) : j ≤ m.n + 1 := by
  obtain rfl | ⟨p, hp, -, rfl⟩ := h.end_cases
  · omega
  · have := Len.words_le (lineAt m p).len
    omega

/-- Each line starts below `n`. -/
theorem length_le (h : Trace m i ls j) : ls.length ≤ m.n - i := by
  induction h with
  | nil i => exact Nat.zero_le _
  | @cons i _ _ hi _ ih =>
    have := Len.words_pos (lineAt m i).len
    rw [List.length_cons]
    omega

end Trace

theorem runFrom_of_lt {m : Memory} {i : Nat} (h : i < m.n) (k : Nat) (out : List Line) :
    runFrom m (k + 1) i out = runFrom m k (i + (lineAt m i).len.words) (out ++ [lineAt m i]) :=
  if_neg (Nat.not_le.2 h)

theorem runFrom_of_le {m : Memory} {i : Nat} (h : m.n ≤ i) (k : Nat) (out : List Line) :
    runFrom m k i out = (i, out) := by
  cases k with
  | zero => rfl
  | succ k => exact if_pos h

/-- R125: `runFrom` appends a trace, of as many lines as its bound unless the end is reached. -/
theorem runFrom_eq_trace (m : Memory) (k i : Nat) (out : List Line) :
    ∃ ls j, runFrom m k i out = (j, out ++ ls) ∧ Trace m i ls j ∧ ls.length ≤ k ∧ (j < m.n → ls.length = k) := by
  induction k generalizing i out with
  | zero => exact ⟨[], i, by rw [List.append_nil]; rfl, .nil i, le_rfl, fun _ => rfl⟩
  | succ k ih =>
    rcases Nat.lt_or_ge i m.n with h | h
    · obtain ⟨ls, j, hrun, htrace, hle, hlen⟩ := ih (i + (lineAt m i).len.words) (out ++ [lineAt m i])
      refine ⟨lineAt m i :: ls, j, ?_, .cons h htrace, Nat.succ_le_succ hle, fun hj => congrArg _ (hlen hj)⟩
      rw [runFrom_of_lt h, hrun, List.append_assoc, List.singleton_append]
    · exact ⟨[], i, by rw [runFrom_of_le h, List.append_nil], .nil i, Nat.zero_le _, fun hi => absurd h (Nat.not_le.2 hi)⟩

/-- With room for the words that remain, `runFrom` reaches the end. -/
theorem le_of_trace_of_bound {m : Memory} {i j : Nat} {ls : List Line} (h : Trace m i ls j)
    (hlen : j < m.n → ls.length = m.n - i) : m.n ≤ j := by
  by_contra hj
  have hle := h.add_length_le
  have := hlen (Nat.not_le.1 hj)
  omega

/-- A trace that reaches the end is the one `runFrom` answers. -/
theorem runFrom_of_trace {m : Memory} {i j k : Nat} {ls : List Line} (h : Trace m i ls j) (hj : m.n ≤ j)
    (hk : ls.length ≤ k) (out : List Line) : runFrom m k i out = (j, out ++ ls) := by
  induction h generalizing k out with
  | nil i => rw [runFrom_of_le hj, List.append_nil]
  | @cons i j ls hi _ ih =>
    obtain ⟨k, rfl⟩ := Nat.exists_eq_add_one_of_ne_zero (Nat.ne_of_gt (Nat.zero_lt_of_lt hk))
    rw [runFrom_of_lt hi, ih hj (Nat.le_of_succ_le_succ hk), List.append_assoc, List.singleton_append]

/-- R125: `Run` is a trace from index 0 that reaches the end. -/
theorem run_trace (m : Memory) : Trace m 0 (run m).2 (run m).1 ∧ m.n ≤ (run m).1 := by
  obtain ⟨ls, j, hrun, htrace, -, hlen⟩ := runFrom_eq_trace m m.n 0 []
  rw [run, hrun, List.nil_append]
  exact ⟨htrace, le_of_trace_of_bound htrace hlen⟩

theorem run_of_trace {m : Memory} {j : Nat} {ls : List Line} (h : Trace m 0 ls j) (hj : m.n ≤ j) :
    run m = (j, ls) :=
  runFrom_of_trace h hj h.length_le []

/-- The machine is the function: a number of steps keeps the store and takes cursor and output through `runFrom`. -/
theorem runSteps_eq_runFrom (k : Nat) (s : State) :
    runSteps k s = .next { s with
      cursor := (runFrom s.words k s.cursor s.out).1
      out := (runFrom s.words k s.cursor s.out).2 } := by
  induction k generalizing s with
  | zero => rfl
  | succ k ih =>
    rcases Nat.lt_or_ge s.cursor s.words.n with h | h
    · rw [runSteps_succ (step_eq_lineAt h), ih, runFrom_of_lt h]
    · rw [runSteps_succ (step_of_done h), ih, runFrom_of_le h, runFrom_of_le h]

/-- Everything a number of steps can do, in every state. -/
theorem runSteps_eq_trace (k : Nat) (s : State) :
    ∃ ls j, runSteps k s = .next { s with cursor := j, out := s.out ++ ls } ∧ Trace s.words s.cursor ls j ∧
      ls.length ≤ k ∧ (j < s.words.n → ls.length = k) := by
  obtain ⟨ls, j, hrun, hspec⟩ := runFrom_eq_trace s.words k s.cursor s.out
  exact ⟨ls, j, by rw [runSteps_eq_runFrom, hrun], hspec⟩

end Sys2Proof.Machine
end

section
/-! PROOFS. Runs of the machine: the run function, the frame of a run, its end. -/

namespace Sys2Proof.Machine

theorem runSteps_hostReset (s : State) : runSteps s.words.n (hostReset s) =
    .next { words := s.words, cursor := (run s.words).1, out := (run s.words).2 } :=
  runSteps_eq_runFrom s.words.n (hostReset s)

/-- Settles O46: the machine follows `runFrom` from cursor 0 with no output, which is `Run`; a session is a run of the
loaded store. -/
theorem runOfTheMachineIsTheRunFunction : Obligations.RunOfTheMachineIsTheRunFunction :=
  ⟨fun s => ⟨runSteps_hostReset s, (run_trace s.words).2⟩, fun ws s => runSteps_hostReset (hostLoad ws s)⟩

/-- Settles O34: of the run function, only cursor and output reach the state. -/
theorem noRunWritesTheStore : Obligations.NoRunWritesTheStore :=
  fun k s => ⟨_, runSteps_eq_runFrom k s, rfl, fun _ => rfl⟩

/-- Settles O35: the lines of the trace a run appends. -/
theorem outputOnlyGrowsOneLineAStep : Obligations.OutputOnlyGrowsOneLineAStep := by
  intro k s s' hrun
  obtain ⟨ls, j, heq, -, hle, hlen⟩ := runSteps_eq_trace k s
  cases heq.symm.trans hrun
  exact ⟨ls, rfl, hle, hlen⟩

/-- Settles O36: by induction on the number of steps, each of them the done step. -/
theorem doneStateHolds : Obligations.DoneStateHolds := by
  intro k s h
  induction k with
  | zero => rfl
  | succ k ih => rw [runSteps_succ (step_of_done h), ih]

/-- Settles O47: with as many steps as words remain the trace reaches the end, and its last line passes it by one at
most. -/
theorem everyRunEndsWithinItsRemainingWords : Obligations.EveryRunEndsWithinItsRemainingWords := by
  intro s
  obtain ⟨ls, j, hrun, htrace, -, hlen⟩ := runSteps_eq_trace (s.words.n - s.cursor) s
  have hend : s.words.n ≤ j := le_of_trace_of_bound htrace hlen
  refine ⟨_, hrun, hend, fun hcur => ?_⟩
  have hbound : j ≤ s.words.n + 1 := htrace.end_le hcur
  exact (Nat.le_or_eq_of_le_succ hbound).imp_left fun hle => Nat.le_antisymm hle hend

/-- Settles O56: the store of no words is done at cursor 0, and a done state holds (O36). -/
theorem emptyStoreIsDoneAtOnce : Obligations.EmptyStoreIsDoneAtOnce :=
  fun k _ => ⟨rfl, doneStateHolds k _ le_rfl, rfl⟩

end Sys2Proof.Machine
end

section
/-! PROOFS. The run invariant: reset establishes it, every step keeps it, and what it says of the cursor and the lines. -/

namespace Sys2Proof.Machine

open Sys2Proof.Safety

/-- Settles O42: a done step changes nothing, and any other extends the trace by the line at the cursor. -/
theorem everyStepKeepsTheRunInvariant : Obligations.EveryStepKeepsTheRunInvariant := by
  intro s s' hinv hstep
  rcases Nat.lt_or_ge s.cursor s.words.n with h | h
  · obtain ⟨hwf, htrace⟩ := runInv_iff.1 hinv
    cases (step_eq_lineAt h).symm.trans hstep
    exact runInv_iff.2 ⟨hwf, htrace.snoc h⟩
  · cases (step_of_done h).symm.trans hstep
    exact hinv

theorem runInv_hostReset {s : State} (hwf : s.words.wf = true) : RunInv (hostReset s) :=
  runInv_iff.2 ⟨hwf, .nil 0⟩

/-- Settles O43: the empty trace over a canonical store, which every load gives. -/
theorem resetEstablishesTheRunInvariant : Obligations.ResetEstablishesTheRunInvariant :=
  ⟨runInv_hostReset (s := State.reset) reset_words_wf, rfl, rfl,
    fun _ hwf => ⟨runInv_hostReset hwf, rfl, rfl, rfl⟩, fun ws s => runInv_hostReset (hostLoad_wf ws s)⟩

/-- Settles O44: the cursor stands at the end of the trace. -/
theorem cursorNeverPassesTheEndByMoreThanOne : Obligations.CursorNeverPassesTheEndByMoreThanOne := by
  intro s hinv
  obtain ⟨-, htrace⟩ := runInv_iff.1 hinv
  refine ⟨htrace.end_le (Nat.zero_le _), fun hpast => ?_⟩
  obtain h0 | ⟨p, hp, hlast, hend⟩ := htrace.end_cases
  · omega
  · refine ⟨lineAt s.words p, hlast, ?_⟩
    cases hlen : (lineAt s.words p).len with
    | one => rw [hlen, Len.words] at hend; omega
    | two => rw [hlen, Len.words] at hend; exact ⟨by rw [lineAt_addr]; omega, rfl⟩

/-- A line starts below `n`, so only a second word can lie past the end. -/
theorem lt_addr_add_words_iff {n : Nat} {l : Line} (h : l.addr < n) :
    n < l.addr + l.len.words ↔ l.addr + 1 = n ∧ l.len = .two := by
  cases hlen : l.len with
  | one => simp only [Len.words, reduceCtorEq, and_false, iff_false]; omega
  | two => simp only [Len.words, and_true]; omega

/-- Settles O45: every line is the line at its own address below `n`, and past the end the trailing word reads 0. -/
theorem cutOffLinesAreThoseReachingPastTheEnd : Obligations.CutOffLinesAreThoseReachingPastTheEnd := by
  intro s ⟨_, _, hlines⟩ l hl
  obtain ⟨haddr, hline⟩ := lineOk_iff.1 (hlines l hl)
  refine ⟨lt_addr_add_words_iff haddr, fun hpast => ?_⟩
  obtain ⟨hlast, -⟩ := (lt_addr_add_words_iff haddr).1 hpast
  rw [hline, lineAt_dec, lineAt_addr, wordAt_of_le hlast.ge]

/-- Settles O50: the step's cursor is at most n + 1 (O42, O44), so the register holds it without wrapping. -/
theorem cursorRegisterOfSufficientWidthNeverWraps : Obligations.CursorRegisterOfSufficientWidthNeverWraps := by
  intro W s hinv h hfits
  have hstep := step_eq_lineAt h
  obtain ⟨hbound, -⟩ := cursorNeverPassesTheEndByMoreThanOne _ (everyStepKeepsTheRunInvariant s _ hinv hstep)
  exact ⟨_, hstep, BitVec.ofNat_add _ _, BitVec.toNat_ofNat .. ▸ Nat.mod_eq_of_lt (hbound.trans_lt hfits)⟩

end Sys2Proof.Machine
end

section
/-! PROOFS. The instruction boundaries (R126): the lines of a run stand at them, and they depend on the lengths alone. -/

namespace Sys2Proof.Machine

theorem boundary_succ (m : Memory) (k : Nat) :
    boundary m (k + 1) = boundary m k + (lineAt m (boundary m k)).len.words := rfl

theorem boundary_strictMono (m : Memory) : StrictMono (boundary m) :=
  strictMono_nat_of_lt_succ fun k => Nat.lt_add_of_pos_right (Len.words_pos (wordLen (m.wordAt (boundary m k))))

/-- From a boundary on, a trace holds the lines of the boundaries that follow and ends at one. -/
theorem Trace.at_boundaries {m : Memory} {i j : Nat} {ls : List Line} (h : Trace m i ls j) {q : Nat}
    (hi : i = boundary m q) : j = boundary m (q + ls.length) ∧
      ∀ k l, ls[k]? = some l → l = lineAt m (boundary m (q + k)) ∧ boundary m (q + k) < m.n := by
  induction h generalizing q with
  | nil i => exact ⟨hi, by simp⟩
  | @cons i j ls hlt _ ih =>
    subst hi
    obtain ⟨hend, hlines⟩ := ih (boundary_succ m q).symm
    refine ⟨by rw [hend, List.length_cons, Nat.add_assoc, Nat.add_comm 1], fun k l hl => ?_⟩
    cases k with
    | zero =>
      obtain rfl : lineAt m (boundary m q) = l := by simpa using hl
      exact ⟨rfl, hlt⟩
    | succ k =>
      obtain ⟨hline, hk⟩ := hlines k l (by simpa using hl)
      rw [Nat.add_right_comm] at hline hk
      exact ⟨hline, hk⟩

/-- The line at each place of a run is the line at that boundary. -/
theorem run_getElem? {m : Memory} {k : Nat} {l : Line} (h : (run m).2[k]? = some l) :
    l = lineAt m (boundary m k) ∧ boundary m k < m.n := by
  have hlines := ((run_trace m).1.at_boundaries (q := 0) rfl).2 k l h
  rwa [Nat.zero_add] at hlines

theorem boundary_run_length (m : Memory) : boundary m (run m).2.length = (run m).1 := by
  have hend := ((run_trace m).1.at_boundaries (q := 0) rfl).1
  rw [Nat.zero_add] at hend
  exact hend.symm

/-- The run has one line for each boundary below `n`. -/
theorem lt_run_length_iff {m : Memory} {k : Nat} : k < (run m).2.length ↔ boundary m k < m.n := by
  refine ⟨fun h => (run_getElem? (List.getElem?_eq_getElem h)).2, fun h => ?_⟩
  have hend := (run_trace m).2
  rw [← boundary_run_length] at hend
  exact (boundary_strictMono m).lt_iff_lt.1 (h.trans_le hend)

/-- The lines of a run, each at its boundary. -/
theorem run_lines (m : Memory) :
    (run m).2 = (List.range (run m).2.length).map fun k => lineAt m (boundary m k) := by
  apply List.ext_getElem (by simp)
  intro k hk _
  rw [List.getElem_map, List.getElem_range]
  exact (run_getElem? (List.getElem?_eq_getElem hk)).1

/-- The lengths of the lines of a trace sum to its span. -/
theorem Trace.add_sum_eq {m : Memory} {i j : Nat} {ls : List Line} (h : Trace m i ls j) :
    i + (ls.map fun l => l.len.words).sum = j := by
  induction h with
  | nil i => rfl
  | cons _ _ ih => rw [List.map_cons, List.sum_cons, ← Nat.add_assoc, ih]

/-- No boundary lies between one and the next. -/
theorem boundary_ne_of_between {m : Memory} {k q : Nat} {x : Nat} (hlo : boundary m k < x)
    (hhi : x < boundary m (k + 1)) : boundary m q ≠ x := by
  rintro rfl
  have hkq := (boundary_strictMono m).lt_iff_lt.1 hlo
  have hqk := (boundary_strictMono m).lt_iff_lt.1 hhi
  omega

/-- Settles O48: the trace of the run is over the boundaries, which rise strictly, and a two-word line leaves a gap
between two of them. -/
theorem linesAreTheInstructionBoundaries : Obligations.LinesAreTheInstructionBoundaries := by
  intro m
  refine ⟨fun k l hl => ?_, boundary_run_length m, (run_trace m).2, ?_, ?_, fun l hl hlen l' hl' => ?_⟩
  · obtain ⟨rfl, hk⟩ := run_getElem? hl
    exact ⟨rfl, hk⟩
  · rw [run_lines, List.pairwise_map]
    exact List.pairwise_lt_range.imp fun hlt => boundary_strictMono m hlt
  · exact (Nat.zero_add _).symm.trans (run_trace m).1.add_sum_eq
  · obtain ⟨k, hk⟩ := List.mem_iff_getElem?.1 hl
    obtain ⟨k', hk'⟩ := List.mem_iff_getElem?.1 hl'
    obtain ⟨rfl, -⟩ := run_getElem? hk
    obtain ⟨rfl, -⟩ := run_getElem? hk'
    have hnext : boundary m (k + 1) = boundary m k + 2 := by rw [boundary_succ, hlen, Len.words]
    exact boundary_ne_of_between (k := k) (Nat.lt_succ_self _) (by rw [hnext]; exact Nat.lt_succ_self _)

/-- Stores whose words have the same length everywhere have the same boundaries. -/
theorem boundary_congr {m m' : Memory} (h : ∀ i, wordLen (m.wordAt i) = wordLen (m'.wordAt i)) (k : Nat) :
    boundary m k = boundary m' k := by
  induction k with
  | zero => rfl
  | succ k ih => rw [boundary_succ, boundary_succ, lineAt_len, lineAt_len, ih, h]

theorem run_length_congr {m m' : Memory} (hn : m.n = m'.n)
    (h : ∀ i, wordLen (m.wordAt i) = wordLen (m'.wordAt i)) : (run m).2.length = (run m').2.length := by
  have hlt : ∀ k, k < (run m).2.length ↔ k < (run m').2.length := fun k => by
    rw [lt_run_length_iff, lt_run_length_iff, boundary_congr h, hn]
  exact Nat.le_antisymm (Nat.not_lt.1 fun hgt => lt_irrefl _ ((hlt _).1 hgt))
    (Nat.not_lt.1 fun hgt => lt_irrefl _ ((hlt _).2 hgt))

/-- R50, R130: two stores that differ at `k` alone, in a word of the same length, have the same line at an index that
neither is `k` nor takes the word at `k` as its trailing word. -/
theorem lineAt_eq_of_ne {m m' : Memory} {k i : Nat} (halike : ∀ j, j ≠ k → m.wordAt j = m'.wordAt j) (hi : i ≠ k)
    (htrail : ¬ (i + 1 = k ∧ wordLen (m.wordAt i) = .two)) : lineAt m i = lineAt m' i :=
  lineAt_congr (halike i hi) fun hlen => halike (i + 1) fun hk => htrail ⟨hk, hlen⟩

/-- Settles O58: the two words at `k` have the same length, so all boundaries agree, and the line at a boundary is made
of its own two words. -/
theorem anomalyLeavesBoundariesAndOtherLines : Obligations.AnomalyLeavesBoundariesAndOtherLines := by
  intro m m' k hn halike hsame
  have hlen : ∀ i, wordLen (m.wordAt i) = wordLen (m'.wordAt i) := fun i => by
    by_cases hi : i = k
    · exact hi ▸ wordLen_congr hsame
    · rw [halike i hi]
  have hcount := run_length_congr hn hlen
  refine ⟨boundary_congr hlen, ?_, hcount, fun j l hl => ?_⟩
  · rw [← boundary_run_length, ← boundary_run_length, hcount, boundary_congr hlen]
  · obtain ⟨rfl, -⟩ := run_getElem? hl
    obtain ⟨hj, -⟩ := List.getElem?_eq_some_iff.1 hl
    rw [hcount] at hj
    have hl' := List.getElem?_eq_getElem hj
    obtain ⟨hline, -⟩ := run_getElem? hl'
    rw [← boundary_congr hlen] at hline
    rw [hl', hline]
    exact ⟨⟨_, rfl, rfl, (hlen _).symm⟩, fun hk htrail => congrArg some (lineAt_eq_of_ne halike hk htrail).symm⟩

end Sys2Proof.Machine
end

section
/-! PROOFS. A stream of encoded instructions is decoded one by one. -/

namespace Sys2Proof.Machine

theorem wordAt_ofWords_append_add (pre ws : List Word) (k : Nat) :
    (Memory.ofWords (pre ++ ws)).wordAt (pre.length + k) = ws.getD k 0x0000#16 := by
  rcases Nat.lt_or_ge k ws.length with hk | hk
  · rw [wordAt_ofWords (by rw [List.length_append]; omega), List.getElem_append_right (Nat.le_add_right _ _),
      List.getD_eq_getElem _ _ hk]
    simp only [Nat.add_sub_cancel_left]
  · rw [wordAt_of_le (by rw [ofWords_n, List.length_append]; omega), List.getD_eq_default _ _ hk]

theorem encodeWords_length (i : Instr) (t : Word) : (encodeWords i t).length = (wordLen (encode i)).words := by
  unfold encodeWords
  split <;> simp [Len.words, *]

/-- R42: the first word of an instruction, and its second where the length is two. -/
theorem encodeWords_eq (i : Instr) (t : Word) : ∃ rest, encodeWords i t = encode i :: rest ∧
    (wordLen (encode i) = .two → rest = [t]) := by
  unfold encodeWords
  cases wordLen (encode i) with
  | one => exact ⟨[], rfl, nofun⟩
  | two => exact ⟨[t], rfl, fun _ => rfl⟩

/-- The line at an instruction that the store holds the words of. -/
theorem lineAt_encodeWords (pre post : List Word) (i : Instr) (t : Word) :
    lineAt (Memory.ofWords (pre ++ (encodeWords i t ++ post))) pre.length =
      ⟨pre.length, (idBlock (encode i) t).2, (idBlock (encode i) t).1⟩ := by
  obtain ⟨rest, heq, hrest⟩ := encodeWords_eq i t
  have hword := wordAt_ofWords_append_add pre (encodeWords i t ++ post) 0
  have htrail := wordAt_ofWords_append_add pre (encodeWords i t ++ post) 1
  rw [heq, List.cons_append] at hword htrail ⊢
  rw [Nat.add_zero, List.getD_cons_zero] at hword
  have hdec : idDecoded (encode i) ((Memory.ofWords (pre ++ encode i :: (rest ++ post))).wordAt (pre.length + 1)) =
      idDecoded (encode i) t := by
    cases hlen : wordLen (encode i) with
    | one => exact idDecoded_of_wordLen_one hlen _ _
    | two => rw [htrail, hrest hlen]; rfl
  rw [lineAt, hword, idBlock, idBlock, hdec]

/-- From the first word of a stream of instructions on, the trace over the store has one line for each and ends with
the store. -/
theorem exists_trace_encoded (ps : List (Instr × Word)) (pre : List Word) :
    let m := Memory.ofWords (pre ++ ps.flatMap fun p => encodeWords p.1 p.2)
    ∃ ls, Trace m pre.length ls m.n ∧ (ls.map fun l => (l.dec, l.len)) = ps.map fun p => idBlock (encode p.1) p.2 := by
  induction ps generalizing pre with
  | nil => exact ⟨[], by simpa using Trace.nil pre.length, rfl⟩
  | cons p ps ih =>
    obtain ⟨ls, htrace, hls⟩ := ih (pre ++ encodeWords p.1 p.2)
    rw [List.append_assoc, List.length_append, encodeWords_length] at htrace
    have hline := lineAt_encodeWords pre (ps.flatMap fun p => encodeWords p.1 p.2) p.1 p.2
    rw [List.flatMap_cons]
    refine ⟨_, .cons ?_ (by rw [hline]; exact htrace), ?_⟩
    · have := Len.words_pos (wordLen (encode p.1))
      rw [ofWords_n, List.length_append, List.length_append, encodeWords_length]
      omega
    · rw [List.map_cons, List.map_cons, hls, hline]

/-- Settles O49: the trace over the encoded stream reaches its end, so it is the run. -/
theorem encodedStreamDecodesToItsInstructions : Obligations.EncodedStreamDecodesToItsInstructions := by
  intro ps _ m
  obtain ⟨ls, htrace, hls⟩ := exists_trace_encoded ps []
  have hrun : run m = (m.n, ls) := run_of_trace htrace le_rfl
  rw [hrun]
  exact ⟨rfl, hls⟩

end Sys2Proof.Machine
end

section
/-! PROOFS. Placing a word in the store (the host's load of one word), and the canonical form: what a canonical store
reads determines its data. -/

namespace Sys2Proof.Machine

/-- Canonical cells list no index from their bound on. -/
theorem lookupCell_of_ge {cs : List WordCell} {lo hi k : Nat} (hwf : cellsWf lo hi cs = true) (hk : hi ≤ k) :
    lookupCell cs k = unlistedWord := by
  induction cs generalizing lo with
  | nil => rfl
  | cons c cs ih =>
    obtain ⟨i, w⟩ := c
    obtain ⟨-, hi, -, hcs⟩ := cellsWf_cons.1 hwf
    rw [lookupCell_cons_ne (by omega)]
    exact ih hcs

/-- In a canonical store the cells alone say what every index reads, past the end too. -/
theorem wordAt_eq_lookupCell {m : Memory} (hwf : m.wf = true) (k : Nat) : m.wordAt k = lookupCell m.cells k := by
  rcases Nat.lt_or_ge k m.n with hk | hk
  · exact wordAt_lt hk
  · rw [wordAt_of_le hk, lookupCell_of_ge hwf hk]
    rfl

theorem lookupCell_putCell_self {cs : List WordCell} {lo hi : Nat} (hwf : cellsWf lo hi cs = true) (k : Nat)
    (w : Word) : lookupCell (putCell cs k w) k = w := by
  induction cs generalizing lo with
  | nil =>
    unfold putCell
    split
    next hw => exact hw.symm
    next => exact lookupCell_cons_self k w []
  | cons c cs ih =>
    obtain ⟨i, v⟩ := c
    obtain ⟨-, -, -, hcs⟩ := cellsWf_cons.1 hwf
    unfold putCell
    split_ifs with hlt hw heq hw'
    · rw [lookupCell_cons_ne (by omega), lookupCell_of_lt hcs (by omega), hw]
    · exact lookupCell_cons_self k w _
    · rw [lookupCell_of_lt hcs (by omega), hw']
    · exact lookupCell_cons_self k w _
    · rw [lookupCell_cons_ne (by omega), ih hcs]

theorem lookupCell_putCell_ne (cs : List WordCell) {j k : Nat} (h : j ≠ k) (w : Word) :
    lookupCell (putCell cs k w) j = lookupCell cs j := by
  induction cs with
  | nil =>
    unfold putCell
    split
    next => rfl
    next => exact lookupCell_cons_ne h.symm w []
  | cons c cs ih =>
    obtain ⟨i, v⟩ := c
    unfold putCell
    split_ifs with hlt hw heq hw'
    · rfl
    · exact lookupCell_cons_ne h.symm w _
    · exact (lookupCell_cons_ne (heq ▸ h.symm) v cs).symm
    · rw [lookupCell_cons_ne h.symm, lookupCell_cons_ne (heq ▸ h.symm)]
    · by_cases hi : i = j
      · rw [hi, lookupCell_cons_self, lookupCell_cons_self]
      · rw [lookupCell_cons_ne hi, lookupCell_cons_ne hi, ih]

theorem wordAt_put_self {m : Memory} (hwf : m.wf = true) (k : Nat) (w : Word) : (m.put k w).wordAt k = w := by
  rw [wordAt_eq_lookupCell (put_wf k w hwf), put_cells]
  exact lookupCell_putCell_self hwf k w

theorem wordAt_put_ne {m : Memory} (hwf : m.wf = true) {j k : Nat} (h : j ≠ k) (w : Word) :
    (m.put k w).wordAt j = m.wordAt j := by
  rw [wordAt_eq_lookupCell (put_wf k w hwf), put_cells, lookupCell_putCell_ne _ h, wordAt_eq_lookupCell hwf]

/-- Settles O40: in canonical form the cells alone say what an index reads, and `putCell` changes one of them. -/
theorem placedWordReadsBackAndOthersKeep : Obligations.PlacedWordReadsBackAndOthersKeep :=
  fun _ k w hwf => ⟨wordAt_put_self hwf k w, Nat.lt_of_succ_le (le_max_right _ _), le_max_left _ _,
    fun _ hj => wordAt_put_ne hwf hj w⟩

/-- A canonical list lists no word that an unlisted index reads as. -/
theorem lookupCell_head_ne_unlisted {lo hi i : Nat} {w : Word} {cs : List WordCell}
    (hwf : cellsWf lo hi ((i, w) :: cs) = true) : lookupCell ((i, w) :: cs) i ≠ unlistedWord := by
  obtain ⟨-, -, hw, -⟩ := cellsWf_cons.1 hwf
  rwa [lookupCell_cons_self]

/-- Canonical lists that read alike begin at the same index: below its first cell a list reads as unlisted. -/
theorem head_index_le {lo lo' hi hi' i i' : Nat} {w w' : Word} {cs cs' : List WordCell}
    (hwf : cellsWf lo hi ((i, w) :: cs) = true) (hwf' : cellsWf lo' hi' ((i', w') :: cs') = true)
    (h : ∀ k, lookupCell ((i, w) :: cs) k = lookupCell ((i', w') :: cs') k) : i' ≤ i := by
  by_contra hlt
  obtain ⟨-, hbound, hw', hcs'⟩ := cellsWf_cons.1 hwf'
  have htight : cellsWf i' hi' ((i', w') :: cs') = true := cellsWf_cons.2 ⟨le_rfl, hbound, hw', hcs'⟩
  exact lookupCell_head_ne_unlisted hwf ((h i).trans (lookupCell_of_lt htight (Nat.not_le.1 hlt)))

/-- Canonical lists of cells that read alike at every index are equal. -/
theorem cells_eq_of_lookupCell_eq {lo lo' hi hi' : Nat} {cs cs' : List WordCell} (hwf : cellsWf lo hi cs = true)
    (hwf' : cellsWf lo' hi' cs' = true) (h : ∀ k, lookupCell cs k = lookupCell cs' k) : cs = cs' := by
  induction cs generalizing lo lo' cs' with
  | nil =>
    cases cs' with
    | nil => rfl
    | cons c cs' => exact absurd (h c.1).symm (lookupCell_head_ne_unlisted hwf')
  | cons c cs ih =>
    obtain ⟨i, w⟩ := c
    cases cs' with
    | nil => exact absurd (h i) (lookupCell_head_ne_unlisted hwf)
    | cons c' cs' =>
      obtain ⟨i', w'⟩ := c'
      obtain rfl : i = i' := Nat.le_antisymm (head_index_le hwf' hwf fun k => (h k).symm) (head_index_le hwf hwf' h)
      obtain ⟨-, -, -, hcs⟩ := cellsWf_cons.1 hwf
      obtain ⟨-, -, -, hcs'⟩ := cellsWf_cons.1 hwf'
      have hhead : w = w' := by
        have hi := h i
        rwa [lookupCell_cons_self, lookupCell_cons_self] at hi
      have htail : cs = cs' := ih hcs hcs' fun k => by
        by_cases hk : i = k
        · subst hk
          rw [lookupCell_of_lt hcs (Nat.lt_succ_self i), lookupCell_of_lt hcs' (Nat.lt_succ_self i)]
        · have hkk := h k
          rwa [lookupCell_cons_ne hk, lookupCell_cons_ne hk] at hkk
      rw [hhead, htail]

/-- Settles O41: past the end both stores read 0, so they read alike everywhere, and their cells agree. -/
theorem canonicalStoresThatReadAlikeAreEqual : Obligations.CanonicalStoresThatReadAlikeAreEqual := by
  intro m m' hwf hwf' hn h
  have hcells : m.cells = m'.cells := cells_eq_of_lookupCell_eq hwf hwf' fun k => by
    rw [← wordAt_eq_lookupCell hwf, ← wordAt_eq_lookupCell hwf']
    rcases Nat.lt_or_ge k m.n with hk | hk
    · exact h k hk
    · rw [wordAt_of_le hk, wordAt_of_le (hn ▸ hk)]
  cases m
  cases m'
  exact congrArg₂ Memory.mk hn hcells

theorem tableWord_zero (w : Word) : tableWord 16 w.toNat 0 = w := by
  have hw : w.toNat % 2 ^ 16 = w.toNat := Nat.mod_eq_of_lt w.isLt
  rw [tableWord, hw, Nat.mul_zero, Nat.shiftRight_zero, BitVec.ofNat_toNat, BitVec.setWidth_eq]

theorem tableWord_one (w : Word) : tableWord 16 w.toNat 1 = 0x0000#16 := by
  have hshift : (w.toNat % 2 ^ 16) >>> (16 * 1) = 0 := Nat.shiftRight_eq_zero _ _ (Nat.mod_lt _ (Nat.two_pow_pos 16))
  rw [tableWord, hshift]

section WithFetchWord

variable {s : State} (w : Word) (hwf : s.words.wf = true)

include hwf

theorem withFetchWord_wordAt_cursor : (s.withFetchWord 16 w.toNat).words.wordAt s.cursor = w := by
  rw [State.withFetchWord, wordAt_put_ne (put_wf _ _ hwf) (Nat.ne_of_lt (Nat.lt_succ_self _)), wordAt_put_self hwf,
    tableWord_zero]

theorem withFetchWord_wordAt_next : (s.withFetchWord 16 w.toNat).words.wordAt (s.cursor + 1) = 0x0000#16 := by
  rw [State.withFetchWord, wordAt_put_self (put_wf _ _ hwf), tableWord_one]

theorem withFetchWord_wordAt_other {j : Nat} (hj : j ≠ s.cursor) (hj' : j ≠ s.cursor + 1) :
    (s.withFetchWord 16 w.toNat).words.wordAt j = s.words.wordAt j := by
  rw [State.withFetchWord, wordAt_put_ne (put_wf _ _ hwf) hj', wordAt_put_ne hwf hj]

end WithFetchWord

/-- The store is long enough for both words of the placed instruction. -/
theorem withFetchWord_not_done (s : State) (nbits w : Nat) :
    (s.withFetchWord nbits w).cursor < (s.withFetchWord nbits w).words.n := by
  simp only [State.withFetchWord, put_n]
  omega

/-- Settles O54: the placed words read back, so the next step is over the line of the placed instruction. -/
theorem placedInstructionIsTheNextStep : Obligations.PlacedInstructionIsTheNextStep := by
  intro s w hwf
  have hnext := withFetchWord_not_done s 16 w.toNat
  have hword : instrWord (s.withFetchWord 16 w.toNat) = w := withFetchWord_wordAt_cursor w hwf
  have htrail : trailingWord (s.withFetchWord 16 w.toNat) = 0x0000#16 := withFetchWord_wordAt_next w hwf
  refine ⟨by rw [decodeTableWord, tableWord_zero], ?_, ⟨_, step_of_not_done hnext, ?_⟩,
    fun j hj hj' => withFetchWord_wordAt_other w hwf hj hj'⟩
  · rw [step_eq_exec_decode hnext, hword]
  · rw [emitLine_out, hword, htrail, withFetchWord_out, withFetchWord_cursor]

end Sys2Proof.Machine
end

section
/-! PROOFS. The tables, the fixed operands, the literals and the anomaly codes. -/

namespace Sys2Proof.Machine

/-- Settles O7: each part is a fact about the 32 codes of a table, or about pairs of them. -/
theorem tablesHoldExactlyTheirCodes : Obligations.TablesHoldExactlyTheirCodes :=
  ⟨by decide, by decide, by decide, by decide⟩

/-- Settles O11: the three rows of the code map, their texts, and the row of SET with any operand b. -/
theorem fixedRegisterOperandsAreNames : Obligations.FixedRegisterOperandsAreNames := by
  refine ⟨fun t pos => ⟨CodeMap.sp.od_eq, CodeMap.pc.od_eq, CodeMap.ex.od_eq⟩, rfl, rfl, rfl,
    fun cfg => ⟨rfl, rfl, rfl⟩, rfl, rfl, rfl, fun a s => ?_⟩
  have hexec : exec (.set 0x1C a) s = .next (Expected.binary 0x01 .set 0x1C a s) := emitBinary_eq ..
  have hpc : consumes 0x1C = false := rfl
  refine ⟨_, hexec, ?_⟩
  simp only [Expected.binary, hpc, Bool.false_eq_true, false_or]

/-- R107: which literal a code of 0x20 and above gives in position a. -/
theorem codeMap_litInline_iff {c : OperandCode} {t : Word} {v : Lit} :
    CodeMap c t .a (.litInline v) ↔ 0x20 ≤ c.toNat ∧ v.val = (c.toNat : Int) - 0x21 := by
  constructor
  · intro h
    cases h with
    | litInline hc hv => exact ⟨hc, hv⟩
  · rintro ⟨hc, hv⟩
    exact .litInline hc hv

/-- R107: the one code of a literal. -/
theorem existsUnique_literalCode {v : Int} (hlo : -1 ≤ v) (hhi : v ≤ 30) :
    ∃! c : OperandCode, 0x20#6 ≤ c ∧ ∃ l : Lit, l.val = v ∧ ∀ t : Word, (od c t .a).1 = .litInline l := by
  obtain ⟨k, hk⟩ : ∃ k : Nat, (k : Int) = v + 0x21 := ⟨(v + 0x21).toNat, by omega⟩
  have hcode : (BitVec.ofNat 6 k).toNat = k := by rw [BitVec.toNat_ofNat]; omega
  have hle : 0x20 ≤ (BitVec.ofNat 6 k).toNat := by omega
  refine ⟨BitVec.ofNat 6 k, ⟨hle, ⟨v, hlo, hhi⟩, rfl, fun t => ?_⟩, ?_⟩
  · rw [od_fst, operandDesc_eq_iff, codeMap_litInline_iff, hcode]
    exact ⟨hcode ▸ hle, by dsimp only; omega⟩
  · rintro c ⟨-, l, hl, hdesc⟩
    obtain ⟨-, hval⟩ := codeMap_litInline_iff.1 (operandDesc_eq_iff.1 (hdesc 0))
    apply BitVec.eq_of_toNat_eq
    omega

/-- D9: a literal fits a 16-bit port in two's complement. -/
theorem toInt_litPort (v : Lit) : (litPort v).toInt = v.val := by
  obtain ⟨hlo, hhi⟩ := v.property
  rw [litPort, BitVec.toInt_ofInt]
  exact Int.bmod_eq_of_le (by omega) (by omega)

/-- Settles O13: the row of R107, whose value and code determine each other. -/
theorem inlineLiteralsAreABijection : Obligations.InlineLiteralsAreABijection := by
  refine ⟨fun c t hc => ?_, fun v hlo hhi => existsUnique_literalCode hlo hhi, fun t => ⟨rfl, rfl, rfl⟩,
    toInt_litPort, rfl⟩
  exact ⟨inlineLit c hc, rfl, (CodeMap.litInline hc rfl).od_eq, rfl⟩

/-- R129, D15: the cause codes of an operand. -/
theorem map_anomalyCode_operandAnomalies (d : Operand) :
    (operandAnomalies d).map anomalyCode = Expected.opCodes d := by
  cases d with
  | unknown c why => cases why <;> rfl
  | _ => rfl

/-- Settles O21: the codes of a binary line are those of its operands one after the other. -/
theorem anomalyCauseCodesOfALine : Obligations.AnomalyCauseCodesOfALine := by
  refine ⟨fun n len k => ⟨rfl, rfl⟩, fun n len k m b a => ?_, fun n len k m a => map_anomalyCode_operandAnomalies a⟩
  rw [lineAnomalies, decodedAnomalies_binary, List.map_append, map_anomalyCode_operandAnomalies,
    map_anomalyCode_operandAnomalies]

end Sys2Proof.Machine
end

section
/-! PROOFS. The default text of a word, the worked examples, and the word source of the host. -/

namespace Sys2Proof.Machine

/-- Settles O52: the four texts, by evaluating decoder and `render`. -/
theorem defaultTextsOfWorkedExamples : Obligations.DefaultTextsOfWorkedExamples :=
  ⟨rfl, rfl, rfl, rfl⟩

/-- The sixteen digits are different characters. -/
theorem hexDigit_injOn : ∀ d < 16, ∀ d' < 16, hexDigit d = hexDigit d' → d = d' := by decide

theorem hexDigit_mod_inj {a b : Nat} (h : hexDigit (a % 16) = hexDigit (b % 16)) : a % 16 = b % 16 :=
  hexDigit_injOn _ (Nat.mod_lt _ (by decide)) _ (Nat.mod_lt _ (by decide)) h

/-- The four hexadecimal digits of a word tell it. -/
theorem fmtWordHex_injective {t t' : Word} (h : fmtWordHex t = fmtWordHex t') : t = t' := by
  have hchars := String.ofList_injective h
  simp only [List.cons.injEq, true_and, and_true] at hchars
  obtain ⟨h3, h2, h1, h0⟩ := hchars
  have h3 := hexDigit_mod_inj h3
  have h2 := hexDigit_mod_inj h2
  have h1 := hexDigit_mod_inj h1
  have h0 := hexDigit_mod_inj h0
  have ht := t.isLt
  have ht' := t'.isLt
  apply BitVec.eq_of_toNat_eq
  omega

/-- Settles O53: two fixed characters and four digits. -/
theorem defaultWordFormatIsSixCharactersAndInjective : Obligations.DefaultWordFormatIsSixCharactersAndInjective :=
  ⟨fun _ => String.length_ofList, fun _ _ => fmtWordHex_injective⟩

@[simp] theorem wordSource_bad (ts : List Token) : wordSource (.bad :: ts) = wordSource ts := rfl

theorem wordSource_hex (ds : List (Fin 16)) (ts : List Token) : wordSource (.hex ds :: ts) =
    if hexValue ds ≤ 0xFFFF then (wordSource ts).map (BitVec.ofNat 16 (hexValue ds) :: ·) else none := rfl

/-- R139: a bad token between two parts of a source. -/
theorem wordSource_append_bad (ts us : List Token) : wordSource (ts ++ .bad :: us) = wordSource (ts ++ us) := by
  induction ts with
  | nil => rfl
  | cons t ts ih =>
    cases t with
    | hex ds => rw [List.cons_append, List.cons_append, wordSource_hex, wordSource_hex, ih]
    | bad => exact ih

theorem exitStatus_some (n : Nat) : exitStatus (some n) = if n = 0 then 1 else 0 := rfl

/-- Settles O55: bad tokens by induction on what precedes them, the written tokens by evaluation, and the two cases of
the count. -/
theorem wordSourceDropsBadTokensAndEmptyInputFails : Obligations.WordSourceDropsBadTokensAndEmptyInputFails := by
  refine ⟨wordSource_append_bad, by decide, rfl, fun n => ?_⟩
  rw [exitStatus_some]
  split
  next hn => simp [hn]
  next hn => simp [hn]

end Sys2Proof.Machine
end
